-- ==== Sys2Proof/Word.lean ====
section
/-! DEFINITION. The word types of the machine: bytes and 16-bit words (R7 of spec/00_scope.md). -/

namespace Sys2Proof

/-- A byte, the unit of memory and the width of a general register (R7). -/
abbrev Byte := BitVec 8

/-- A 16-bit word: a register pair, PC, SP or an address (R7). -/
abbrev Word := BitVec 16

end Sys2Proof
end

