-- ==== Sys2Proof/Syntax.lean ====
section
/-! DEFINITION. The instructions: one constructor for each row of spec/opcode_table.json, first the rows that
carry operand bytes (`d8`, `a8`, `r8`, `pad`: R120; `d16`, `a16`: the word of R122), then the others, each in the table's order. Rows whose register,
bit number, condition or target is part of the opcode carry no argument: the register is in the constructor's name, where
`Mem` marks an operand in parentheses. The second page's rotates and shifts begin with `cb`. -/

namespace Sys2Proof

/-- One constructor per row of spec/opcode_table.json (R132, R133 of spec/30_encoding.md). -/
inductive Instr where
  /-- `LD BC,d16`, 0x01 (R202). -/
  | ldBcD16 (d16 : Word)
  /-- `LD B,d8`, 0x06 (R164). -/
  | ldBD8 (d8 : Byte)
  /-- `LD (a16),SP`, 0x08 (R203). -/
  | ldMemA16Sp (a16 : Word)
  /-- `LD C,d8`, 0x0E (R164). -/
  | ldCD8 (d8 : Byte)
  /-- `STOP`, 0x10 (R352). -/
  | stop (pad : Byte)
  /-- `LD DE,d16`, 0x11 (R202). -/
  | ldDeD16 (d16 : Word)
  /-- `LD D,d8`, 0x16 (R164). -/
  | ldDD8 (d8 : Byte)
  /-- `JR r8`, 0x18 (R324). -/
  | jrR8 (r8 : Byte)
  /-- `LD E,d8`, 0x1E (R164). -/
  | ldED8 (d8 : Byte)
  /-- `JR NZ,r8`, 0x20 (R325). -/
  | jrNzR8 (r8 : Byte)
  /-- `LD HL,d16`, 0x21 (R202). -/
  | ldHlD16 (d16 : Word)
  /-- `LD H,d8`, 0x26 (R164). -/
  | ldHD8 (d8 : Byte)
  /-- `JR Z,r8`, 0x28 (R325). -/
  | jrZR8 (r8 : Byte)
  /-- `LD L,d8`, 0x2E (R164). -/
  | ldLD8 (d8 : Byte)
  /-- `JR NC,r8`, 0x30 (R325). -/
  | jrNcR8 (r8 : Byte)
  /-- `LD SP,d16`, 0x31 (R202). -/
  | ldSpD16 (d16 : Word)
  /-- `LD (HL),d8`, 0x36 (R165). -/
  | ldMemHlD8 (d8 : Byte)
  /-- `JR C,r8`, 0x38 (R325). -/
  | jrCR8 (r8 : Byte)
  /-- `LD A,d8`, 0x3E (R164). -/
  | ldAD8 (d8 : Byte)
  /-- `JP NZ,a16`, 0xC2 (R322). -/
  | jpNzA16 (a16 : Word)
  /-- `JP a16`, 0xC3 (R321). -/
  | jpA16 (a16 : Word)
  /-- `CALL NZ,a16`, 0xC4 (R327). -/
  | callNzA16 (a16 : Word)
  /-- `ADD A,d8`, 0xC6 (R221). -/
  | addAD8 (d8 : Byte)
  /-- `JP Z,a16`, 0xCA (R322). -/
  | jpZA16 (a16 : Word)
  /-- `CALL Z,a16`, 0xCC (R327). -/
  | callZA16 (a16 : Word)
  /-- `CALL a16`, 0xCD (R326). -/
  | callA16 (a16 : Word)
  /-- `ADC A,d8`, 0xCE (R222). -/
  | adcAD8 (d8 : Byte)
  /-- `JP NC,a16`, 0xD2 (R322). -/
  | jpNcA16 (a16 : Word)
  /-- `CALL NC,a16`, 0xD4 (R327). -/
  | callNcA16 (a16 : Word)
  /-- `SUB d8`, 0xD6 (R223). -/
  | subD8 (d8 : Byte)
  /-- `JP C,a16`, 0xDA (R322). -/
  | jpCA16 (a16 : Word)
  /-- `CALL C,a16`, 0xDC (R327). -/
  | callCA16 (a16 : Word)
  /-- `SBC A,d8`, 0xDE (R224). -/
  | sbcAD8 (d8 : Byte)
  /-- `LDH (a8),A`, 0xE0 (R174). -/
  | ldhMemA8A (a8 : Byte)
  /-- `AND d8`, 0xE6 (R225). -/
  | andD8 (d8 : Byte)
  /-- `ADD SP,r8`, 0xE8 (R263). -/
  | addSpR8 (r8 : Byte)
  /-- `LD (a16),A`, 0xEA (R178). -/
  | ldMemA16A (a16 : Word)
  /-- `XOR d8`, 0xEE (R226). -/
  | xorD8 (d8 : Byte)
  /-- `LDH A,(a8)`, 0xF0 (R175). -/
  | ldhAMemA8 (a8 : Byte)
  /-- `OR d8`, 0xF6 (R227). -/
  | orD8 (d8 : Byte)
  /-- `LD HL,SP+r8`, 0xF8 (R264). -/
  | ldHlSpPlusR8 (r8 : Byte)
  /-- `LD A,(a16)`, 0xFA (R179). -/
  | ldAMemA16 (a16 : Word)
  /-- `CP d8`, 0xFE (R228). -/
  | cpD8 (d8 : Byte)
  /-- `NOP`, 0x00 (R350). -/
  | nop
  /-- `LD (BC),A`, 0x02 (R168). -/
  | ldMemBcA
  /-- `INC BC`, 0x03 (R261). -/
  | incBc
  /-- `INC B`, 0x04 (R229). -/
  | incB
  /-- `DEC B`, 0x05 (R231). -/
  | decB
  /-- `RLCA`, 0x07 (R280). -/
  | rlca
  /-- `ADD HL,BC`, 0x09 (R260). -/
  | addHlBc
  /-- `LD A,(BC)`, 0x0A (R166). -/
  | ldAMemBc
  /-- `DEC BC`, 0x0B (R262). -/
  | decBc
  /-- `INC C`, 0x0C (R229). -/
  | incC
  /-- `DEC C`, 0x0D (R231). -/
  | decC
  /-- `RRCA`, 0x0F (R282). -/
  | rrca
  /-- `LD (DE),A`, 0x12 (R169). -/
  | ldMemDeA
  /-- `INC DE`, 0x13 (R261). -/
  | incDe
  /-- `INC D`, 0x14 (R229). -/
  | incD
  /-- `DEC D`, 0x15 (R231). -/
  | decD
  /-- `RLA`, 0x17 (R281). -/
  | rla
  /-- `ADD HL,DE`, 0x19 (R260). -/
  | addHlDe
  /-- `LD A,(DE)`, 0x1A (R167). -/
  | ldAMemDe
  /-- `DEC DE`, 0x1B (R262). -/
  | decDe
  /-- `INC E`, 0x1C (R229). -/
  | incE
  /-- `DEC E`, 0x1D (R231). -/
  | decE
  /-- `RRA`, 0x1F (R283). -/
  | rra
  /-- `LD (HL+),A`, 0x22 (R170). -/
  | ldMemHlIncA
  /-- `INC HL`, 0x23 (R261). -/
  | incHl
  /-- `INC H`, 0x24 (R229). -/
  | incH
  /-- `DEC H`, 0x25 (R231). -/
  | decH
  /-- `DAA`, 0x27 (R233). -/
  | daa
  /-- `ADD HL,HL`, 0x29 (R260). -/
  | addHlHl
  /-- `LD A,(HL+)`, 0x2A (R171). -/
  | ldAMemHlInc
  /-- `DEC HL`, 0x2B (R262). -/
  | decHl
  /-- `INC L`, 0x2C (R229). -/
  | incL
  /-- `DEC L`, 0x2D (R231). -/
  | decL
  /-- `CPL`, 0x2F (R234). -/
  | cpl
  /-- `LD (HL-),A`, 0x32 (R172). -/
  | ldMemHlDecA
  /-- `INC SP`, 0x33 (R261). -/
  | incSp
  /-- `INC (HL)`, 0x34 (R230). -/
  | incMemHl
  /-- `DEC (HL)`, 0x35 (R232). -/
  | decMemHl
  /-- `SCF`, 0x37 (R235). -/
  | scf
  /-- `ADD HL,SP`, 0x39 (R260). -/
  | addHlSp
  /-- `LD A,(HL-)`, 0x3A (R173). -/
  | ldAMemHlDec
  /-- `DEC SP`, 0x3B (R262). -/
  | decSp
  /-- `INC A`, 0x3C (R229). -/
  | incA
  /-- `DEC A`, 0x3D (R231). -/
  | decA
  /-- `CCF`, 0x3F (R236). -/
  | ccf
  /-- `LD B,B`, 0x40 (R161). -/
  | ldBB
  /-- `LD B,C`, 0x41 (R161). -/
  | ldBC
  /-- `LD B,D`, 0x42 (R161). -/
  | ldBD
  /-- `LD B,E`, 0x43 (R161). -/
  | ldBE
  /-- `LD B,H`, 0x44 (R161). -/
  | ldBH
  /-- `LD B,L`, 0x45 (R161). -/
  | ldBL
  /-- `LD B,(HL)`, 0x46 (R162). -/
  | ldBMemHl
  /-- `LD B,A`, 0x47 (R161). -/
  | ldBA
  /-- `LD C,B`, 0x48 (R161). -/
  | ldCB
  /-- `LD C,C`, 0x49 (R161). -/
  | ldCC
  /-- `LD C,D`, 0x4A (R161). -/
  | ldCD
  /-- `LD C,E`, 0x4B (R161). -/
  | ldCE
  /-- `LD C,H`, 0x4C (R161). -/
  | ldCH
  /-- `LD C,L`, 0x4D (R161). -/
  | ldCL
  /-- `LD C,(HL)`, 0x4E (R162). -/
  | ldCMemHl
  /-- `LD C,A`, 0x4F (R161). -/
  | ldCA
  /-- `LD D,B`, 0x50 (R161). -/
  | ldDB
  /-- `LD D,C`, 0x51 (R161). -/
  | ldDC
  /-- `LD D,D`, 0x52 (R161). -/
  | ldDD
  /-- `LD D,E`, 0x53 (R161). -/
  | ldDE
  /-- `LD D,H`, 0x54 (R161). -/
  | ldDH
  /-- `LD D,L`, 0x55 (R161). -/
  | ldDL
  /-- `LD D,(HL)`, 0x56 (R162). -/
  | ldDMemHl
  /-- `LD D,A`, 0x57 (R161). -/
  | ldDA
  /-- `LD E,B`, 0x58 (R161). -/
  | ldEB
  /-- `LD E,C`, 0x59 (R161). -/
  | ldEC
  /-- `LD E,D`, 0x5A (R161). -/
  | ldED
  /-- `LD E,E`, 0x5B (R161). -/
  | ldEE
  /-- `LD E,H`, 0x5C (R161). -/
  | ldEH
  /-- `LD E,L`, 0x5D (R161). -/
  | ldEL
  /-- `LD E,(HL)`, 0x5E (R162). -/
  | ldEMemHl
  /-- `LD E,A`, 0x5F (R161). -/
  | ldEA
  /-- `LD H,B`, 0x60 (R161). -/
  | ldHB
  /-- `LD H,C`, 0x61 (R161). -/
  | ldHC
  /-- `LD H,D`, 0x62 (R161). -/
  | ldHD
  /-- `LD H,E`, 0x63 (R161). -/
  | ldHE
  /-- `LD H,H`, 0x64 (R161). -/
  | ldHH
  /-- `LD H,L`, 0x65 (R161). -/
  | ldHL
  /-- `LD H,(HL)`, 0x66 (R162). -/
  | ldHMemHl
  /-- `LD H,A`, 0x67 (R161). -/
  | ldHA
  /-- `LD L,B`, 0x68 (R161). -/
  | ldLB
  /-- `LD L,C`, 0x69 (R161). -/
  | ldLC
  /-- `LD L,D`, 0x6A (R161). -/
  | ldLD
  /-- `LD L,E`, 0x6B (R161). -/
  | ldLE
  /-- `LD L,H`, 0x6C (R161). -/
  | ldLH
  /-- `LD L,L`, 0x6D (R161). -/
  | ldLL
  /-- `LD L,(HL)`, 0x6E (R162). -/
  | ldLMemHl
  /-- `LD L,A`, 0x6F (R161). -/
  | ldLA
  /-- `LD (HL),B`, 0x70 (R163). -/
  | ldMemHlB
  /-- `LD (HL),C`, 0x71 (R163). -/
  | ldMemHlC
  /-- `LD (HL),D`, 0x72 (R163). -/
  | ldMemHlD
  /-- `LD (HL),E`, 0x73 (R163). -/
  | ldMemHlE
  /-- `LD (HL),H`, 0x74 (R163). -/
  | ldMemHlH
  /-- `LD (HL),L`, 0x75 (R163). -/
  | ldMemHlL
  /-- `HALT`, 0x76 (R351). -/
  | halt
  /-- `LD (HL),A`, 0x77 (R163). -/
  | ldMemHlA
  /-- `LD A,B`, 0x78 (R161). -/
  | ldAB
  /-- `LD A,C`, 0x79 (R161). -/
  | ldAC
  /-- `LD A,D`, 0x7A (R161). -/
  | ldAD
  /-- `LD A,E`, 0x7B (R161). -/
  | ldAE
  /-- `LD A,H`, 0x7C (R161). -/
  | ldAH
  /-- `LD A,L`, 0x7D (R161). -/
  | ldAL
  /-- `LD A,(HL)`, 0x7E (R162). -/
  | ldAMemHl
  /-- `LD A,A`, 0x7F (R161). -/
  | ldAA
  /-- `ADD A,B`, 0x80 (R221). -/
  | addAB
  /-- `ADD A,C`, 0x81 (R221). -/
  | addAC
  /-- `ADD A,D`, 0x82 (R221). -/
  | addAD
  /-- `ADD A,E`, 0x83 (R221). -/
  | addAE
  /-- `ADD A,H`, 0x84 (R221). -/
  | addAH
  /-- `ADD A,L`, 0x85 (R221). -/
  | addAL
  /-- `ADD A,(HL)`, 0x86 (R221). -/
  | addAMemHl
  /-- `ADD A,A`, 0x87 (R221). -/
  | addAA
  /-- `ADC A,B`, 0x88 (R222). -/
  | adcAB
  /-- `ADC A,C`, 0x89 (R222). -/
  | adcAC
  /-- `ADC A,D`, 0x8A (R222). -/
  | adcAD
  /-- `ADC A,E`, 0x8B (R222). -/
  | adcAE
  /-- `ADC A,H`, 0x8C (R222). -/
  | adcAH
  /-- `ADC A,L`, 0x8D (R222). -/
  | adcAL
  /-- `ADC A,(HL)`, 0x8E (R222). -/
  | adcAMemHl
  /-- `ADC A,A`, 0x8F (R222). -/
  | adcAA
  /-- `SUB B`, 0x90 (R223). -/
  | subB
  /-- `SUB C`, 0x91 (R223). -/
  | subC
  /-- `SUB D`, 0x92 (R223). -/
  | subD
  /-- `SUB E`, 0x93 (R223). -/
  | subE
  /-- `SUB H`, 0x94 (R223). -/
  | subH
  /-- `SUB L`, 0x95 (R223). -/
  | subL
  /-- `SUB (HL)`, 0x96 (R223). -/
  | subMemHl
  /-- `SUB A`, 0x97 (R223). -/
  | subA
  /-- `SBC A,B`, 0x98 (R224). -/
  | sbcAB
  /-- `SBC A,C`, 0x99 (R224). -/
  | sbcAC
  /-- `SBC A,D`, 0x9A (R224). -/
  | sbcAD
  /-- `SBC A,E`, 0x9B (R224). -/
  | sbcAE
  /-- `SBC A,H`, 0x9C (R224). -/
  | sbcAH
  /-- `SBC A,L`, 0x9D (R224). -/
  | sbcAL
  /-- `SBC A,(HL)`, 0x9E (R224). -/
  | sbcAMemHl
  /-- `SBC A,A`, 0x9F (R224). -/
  | sbcAA
  /-- `AND B`, 0xA0 (R225). -/
  | andB
  /-- `AND C`, 0xA1 (R225). -/
  | andC
  /-- `AND D`, 0xA2 (R225). -/
  | andD
  /-- `AND E`, 0xA3 (R225). -/
  | andE
  /-- `AND H`, 0xA4 (R225). -/
  | andH
  /-- `AND L`, 0xA5 (R225). -/
  | andL
  /-- `AND (HL)`, 0xA6 (R225). -/
  | andMemHl
  /-- `AND A`, 0xA7 (R225). -/
  | andA
  /-- `XOR B`, 0xA8 (R226). -/
  | xorB
  /-- `XOR C`, 0xA9 (R226). -/
  | xorC
  /-- `XOR D`, 0xAA (R226). -/
  | xorD
  /-- `XOR E`, 0xAB (R226). -/
  | xorE
  /-- `XOR H`, 0xAC (R226). -/
  | xorH
  /-- `XOR L`, 0xAD (R226). -/
  | xorL
  /-- `XOR (HL)`, 0xAE (R226). -/
  | xorMemHl
  /-- `XOR A`, 0xAF (R226). -/
  | xorA
  /-- `OR B`, 0xB0 (R227). -/
  | orB
  /-- `OR C`, 0xB1 (R227). -/
  | orC
  /-- `OR D`, 0xB2 (R227). -/
  | orD
  /-- `OR E`, 0xB3 (R227). -/
  | orE
  /-- `OR H`, 0xB4 (R227). -/
  | orH
  /-- `OR L`, 0xB5 (R227). -/
  | orL
  /-- `OR (HL)`, 0xB6 (R227). -/
  | orMemHl
  /-- `OR A`, 0xB7 (R227). -/
  | orA
  /-- `CP B`, 0xB8 (R228). -/
  | cpB
  /-- `CP C`, 0xB9 (R228). -/
  | cpC
  /-- `CP D`, 0xBA (R228). -/
  | cpD
  /-- `CP E`, 0xBB (R228). -/
  | cpE
  /-- `CP H`, 0xBC (R228). -/
  | cpH
  /-- `CP L`, 0xBD (R228). -/
  | cpL
  /-- `CP (HL)`, 0xBE (R228). -/
  | cpMemHl
  /-- `CP A`, 0xBF (R228). -/
  | cpA
  /-- `RET NZ`, 0xC0 (R329). -/
  | retNz
  /-- `POP BC`, 0xC1 (R207). -/
  | popBc
  /-- `PUSH BC`, 0xC5 (R205). -/
  | pushBc
  /-- `RST 00H`, 0xC7 (R331). -/
  | rst00H
  /-- `RET Z`, 0xC8 (R329). -/
  | retZ
  /-- `RET`, 0xC9 (R328). -/
  | ret
  /-- `PREFIX CB`, 0xCB (R131). -/
  | prefixCb
  /-- `RST 08H`, 0xCF (R331). -/
  | rst08H
  /-- `RET NC`, 0xD0 (R329). -/
  | retNc
  /-- `POP DE`, 0xD1 (R207). -/
  | popDe
  /-- `ILLEGAL_D3`, 0xD3 (R355). -/
  | illegalD3
  /-- `PUSH DE`, 0xD5 (R205). -/
  | pushDe
  /-- `RST 10H`, 0xD7 (R331). -/
  | rst10H
  /-- `RET C`, 0xD8 (R329). -/
  | retC
  /-- `RETI`, 0xD9 (R330). -/
  | reti
  /-- `ILLEGAL_DB`, 0xDB (R355). -/
  | illegalDB
  /-- `ILLEGAL_DD`, 0xDD (R355). -/
  | illegalDD
  /-- `RST 18H`, 0xDF (R331). -/
  | rst18H
  /-- `POP HL`, 0xE1 (R207). -/
  | popHl
  /-- `LD (C),A`, 0xE2 (R176). -/
  | ldMemCA
  /-- `ILLEGAL_E3`, 0xE3 (R355). -/
  | illegalE3
  /-- `ILLEGAL_E4`, 0xE4 (R355). -/
  | illegalE4
  /-- `PUSH HL`, 0xE5 (R205). -/
  | pushHl
  /-- `RST 20H`, 0xE7 (R331). -/
  | rst20H
  /-- `JP (HL)`, 0xE9 (R323). -/
  | jpMemHl
  /-- `ILLEGAL_EB`, 0xEB (R355). -/
  | illegalEB
  /-- `ILLEGAL_EC`, 0xEC (R355). -/
  | illegalEC
  /-- `ILLEGAL_ED`, 0xED (R355). -/
  | illegalED
  /-- `RST 28H`, 0xEF (R331). -/
  | rst28H
  /-- `POP AF`, 0xF1 (R208). -/
  | popAf
  /-- `LD A,(C)`, 0xF2 (R177). -/
  | ldAMemC
  /-- `DI`, 0xF3 (R353). -/
  | di
  /-- `ILLEGAL_F4`, 0xF4 (R355). -/
  | illegalF4
  /-- `PUSH AF`, 0xF5 (R206). -/
  | pushAf
  /-- `RST 30H`, 0xF7 (R331). -/
  | rst30H
  /-- `LD SP,HL`, 0xF9 (R204). -/
  | ldSpHl
  /-- `EI`, 0xFB (R354). -/
  | ei
  /-- `ILLEGAL_FC`, 0xFC (R355). -/
  | illegalFC
  /-- `ILLEGAL_FD`, 0xFD (R355). -/
  | illegalFD
  /-- `RST 38H`, 0xFF (R331). -/
  | rst38H
  /-- `RLC B`, 0xCB 0x00 (R291). -/
  | cbRlcB
  /-- `RLC C`, 0xCB 0x01 (R291). -/
  | cbRlcC
  /-- `RLC D`, 0xCB 0x02 (R291). -/
  | cbRlcD
  /-- `RLC E`, 0xCB 0x03 (R291). -/
  | cbRlcE
  /-- `RLC H`, 0xCB 0x04 (R291). -/
  | cbRlcH
  /-- `RLC L`, 0xCB 0x05 (R291). -/
  | cbRlcL
  /-- `RLC (HL)`, 0xCB 0x06 (R291). -/
  | cbRlcMemHl
  /-- `RLC A`, 0xCB 0x07 (R291). -/
  | cbRlcA
  /-- `RRC B`, 0xCB 0x08 (R292). -/
  | cbRrcB
  /-- `RRC C`, 0xCB 0x09 (R292). -/
  | cbRrcC
  /-- `RRC D`, 0xCB 0x0A (R292). -/
  | cbRrcD
  /-- `RRC E`, 0xCB 0x0B (R292). -/
  | cbRrcE
  /-- `RRC H`, 0xCB 0x0C (R292). -/
  | cbRrcH
  /-- `RRC L`, 0xCB 0x0D (R292). -/
  | cbRrcL
  /-- `RRC (HL)`, 0xCB 0x0E (R292). -/
  | cbRrcMemHl
  /-- `RRC A`, 0xCB 0x0F (R292). -/
  | cbRrcA
  /-- `RL B`, 0xCB 0x10 (R293). -/
  | cbRlB
  /-- `RL C`, 0xCB 0x11 (R293). -/
  | cbRlC
  /-- `RL D`, 0xCB 0x12 (R293). -/
  | cbRlD
  /-- `RL E`, 0xCB 0x13 (R293). -/
  | cbRlE
  /-- `RL H`, 0xCB 0x14 (R293). -/
  | cbRlH
  /-- `RL L`, 0xCB 0x15 (R293). -/
  | cbRlL
  /-- `RL (HL)`, 0xCB 0x16 (R293). -/
  | cbRlMemHl
  /-- `RL A`, 0xCB 0x17 (R293). -/
  | cbRlA
  /-- `RR B`, 0xCB 0x18 (R294). -/
  | cbRrB
  /-- `RR C`, 0xCB 0x19 (R294). -/
  | cbRrC
  /-- `RR D`, 0xCB 0x1A (R294). -/
  | cbRrD
  /-- `RR E`, 0xCB 0x1B (R294). -/
  | cbRrE
  /-- `RR H`, 0xCB 0x1C (R294). -/
  | cbRrH
  /-- `RR L`, 0xCB 0x1D (R294). -/
  | cbRrL
  /-- `RR (HL)`, 0xCB 0x1E (R294). -/
  | cbRrMemHl
  /-- `RR A`, 0xCB 0x1F (R294). -/
  | cbRrA
  /-- `SLA B`, 0xCB 0x20 (R295). -/
  | cbSlaB
  /-- `SLA C`, 0xCB 0x21 (R295). -/
  | cbSlaC
  /-- `SLA D`, 0xCB 0x22 (R295). -/
  | cbSlaD
  /-- `SLA E`, 0xCB 0x23 (R295). -/
  | cbSlaE
  /-- `SLA H`, 0xCB 0x24 (R295). -/
  | cbSlaH
  /-- `SLA L`, 0xCB 0x25 (R295). -/
  | cbSlaL
  /-- `SLA (HL)`, 0xCB 0x26 (R295). -/
  | cbSlaMemHl
  /-- `SLA A`, 0xCB 0x27 (R295). -/
  | cbSlaA
  /-- `SRA B`, 0xCB 0x28 (R296). -/
  | cbSraB
  /-- `SRA C`, 0xCB 0x29 (R296). -/
  | cbSraC
  /-- `SRA D`, 0xCB 0x2A (R296). -/
  | cbSraD
  /-- `SRA E`, 0xCB 0x2B (R296). -/
  | cbSraE
  /-- `SRA H`, 0xCB 0x2C (R296). -/
  | cbSraH
  /-- `SRA L`, 0xCB 0x2D (R296). -/
  | cbSraL
  /-- `SRA (HL)`, 0xCB 0x2E (R296). -/
  | cbSraMemHl
  /-- `SRA A`, 0xCB 0x2F (R296). -/
  | cbSraA
  /-- `SWAP B`, 0xCB 0x30 (R297). -/
  | cbSwapB
  /-- `SWAP C`, 0xCB 0x31 (R297). -/
  | cbSwapC
  /-- `SWAP D`, 0xCB 0x32 (R297). -/
  | cbSwapD
  /-- `SWAP E`, 0xCB 0x33 (R297). -/
  | cbSwapE
  /-- `SWAP H`, 0xCB 0x34 (R297). -/
  | cbSwapH
  /-- `SWAP L`, 0xCB 0x35 (R297). -/
  | cbSwapL
  /-- `SWAP (HL)`, 0xCB 0x36 (R297). -/
  | cbSwapMemHl
  /-- `SWAP A`, 0xCB 0x37 (R297). -/
  | cbSwapA
  /-- `SRL B`, 0xCB 0x38 (R298). -/
  | cbSrlB
  /-- `SRL C`, 0xCB 0x39 (R298). -/
  | cbSrlC
  /-- `SRL D`, 0xCB 0x3A (R298). -/
  | cbSrlD
  /-- `SRL E`, 0xCB 0x3B (R298). -/
  | cbSrlE
  /-- `SRL H`, 0xCB 0x3C (R298). -/
  | cbSrlH
  /-- `SRL L`, 0xCB 0x3D (R298). -/
  | cbSrlL
  /-- `SRL (HL)`, 0xCB 0x3E (R298). -/
  | cbSrlMemHl
  /-- `SRL A`, 0xCB 0x3F (R298). -/
  | cbSrlA
  /-- `BIT 0,B`, 0xCB 0x40 (R310). -/
  | bit0B
  /-- `BIT 0,C`, 0xCB 0x41 (R310). -/
  | bit0C
  /-- `BIT 0,D`, 0xCB 0x42 (R310). -/
  | bit0D
  /-- `BIT 0,E`, 0xCB 0x43 (R310). -/
  | bit0E
  /-- `BIT 0,H`, 0xCB 0x44 (R310). -/
  | bit0H
  /-- `BIT 0,L`, 0xCB 0x45 (R310). -/
  | bit0L
  /-- `BIT 0,(HL)`, 0xCB 0x46 (R310). -/
  | bit0MemHl
  /-- `BIT 0,A`, 0xCB 0x47 (R310). -/
  | bit0A
  /-- `BIT 1,B`, 0xCB 0x48 (R310). -/
  | bit1B
  /-- `BIT 1,C`, 0xCB 0x49 (R310). -/
  | bit1C
  /-- `BIT 1,D`, 0xCB 0x4A (R310). -/
  | bit1D
  /-- `BIT 1,E`, 0xCB 0x4B (R310). -/
  | bit1E
  /-- `BIT 1,H`, 0xCB 0x4C (R310). -/
  | bit1H
  /-- `BIT 1,L`, 0xCB 0x4D (R310). -/
  | bit1L
  /-- `BIT 1,(HL)`, 0xCB 0x4E (R310). -/
  | bit1MemHl
  /-- `BIT 1,A`, 0xCB 0x4F (R310). -/
  | bit1A
  /-- `BIT 2,B`, 0xCB 0x50 (R310). -/
  | bit2B
  /-- `BIT 2,C`, 0xCB 0x51 (R310). -/
  | bit2C
  /-- `BIT 2,D`, 0xCB 0x52 (R310). -/
  | bit2D
  /-- `BIT 2,E`, 0xCB 0x53 (R310). -/
  | bit2E
  /-- `BIT 2,H`, 0xCB 0x54 (R310). -/
  | bit2H
  /-- `BIT 2,L`, 0xCB 0x55 (R310). -/
  | bit2L
  /-- `BIT 2,(HL)`, 0xCB 0x56 (R310). -/
  | bit2MemHl
  /-- `BIT 2,A`, 0xCB 0x57 (R310). -/
  | bit2A
  /-- `BIT 3,B`, 0xCB 0x58 (R310). -/
  | bit3B
  /-- `BIT 3,C`, 0xCB 0x59 (R310). -/
  | bit3C
  /-- `BIT 3,D`, 0xCB 0x5A (R310). -/
  | bit3D
  /-- `BIT 3,E`, 0xCB 0x5B (R310). -/
  | bit3E
  /-- `BIT 3,H`, 0xCB 0x5C (R310). -/
  | bit3H
  /-- `BIT 3,L`, 0xCB 0x5D (R310). -/
  | bit3L
  /-- `BIT 3,(HL)`, 0xCB 0x5E (R310). -/
  | bit3MemHl
  /-- `BIT 3,A`, 0xCB 0x5F (R310). -/
  | bit3A
  /-- `BIT 4,B`, 0xCB 0x60 (R310). -/
  | bit4B
  /-- `BIT 4,C`, 0xCB 0x61 (R310). -/
  | bit4C
  /-- `BIT 4,D`, 0xCB 0x62 (R310). -/
  | bit4D
  /-- `BIT 4,E`, 0xCB 0x63 (R310). -/
  | bit4E
  /-- `BIT 4,H`, 0xCB 0x64 (R310). -/
  | bit4H
  /-- `BIT 4,L`, 0xCB 0x65 (R310). -/
  | bit4L
  /-- `BIT 4,(HL)`, 0xCB 0x66 (R310). -/
  | bit4MemHl
  /-- `BIT 4,A`, 0xCB 0x67 (R310). -/
  | bit4A
  /-- `BIT 5,B`, 0xCB 0x68 (R310). -/
  | bit5B
  /-- `BIT 5,C`, 0xCB 0x69 (R310). -/
  | bit5C
  /-- `BIT 5,D`, 0xCB 0x6A (R310). -/
  | bit5D
  /-- `BIT 5,E`, 0xCB 0x6B (R310). -/
  | bit5E
  /-- `BIT 5,H`, 0xCB 0x6C (R310). -/
  | bit5H
  /-- `BIT 5,L`, 0xCB 0x6D (R310). -/
  | bit5L
  /-- `BIT 5,(HL)`, 0xCB 0x6E (R310). -/
  | bit5MemHl
  /-- `BIT 5,A`, 0xCB 0x6F (R310). -/
  | bit5A
  /-- `BIT 6,B`, 0xCB 0x70 (R310). -/
  | bit6B
  /-- `BIT 6,C`, 0xCB 0x71 (R310). -/
  | bit6C
  /-- `BIT 6,D`, 0xCB 0x72 (R310). -/
  | bit6D
  /-- `BIT 6,E`, 0xCB 0x73 (R310). -/
  | bit6E
  /-- `BIT 6,H`, 0xCB 0x74 (R310). -/
  | bit6H
  /-- `BIT 6,L`, 0xCB 0x75 (R310). -/
  | bit6L
  /-- `BIT 6,(HL)`, 0xCB 0x76 (R310). -/
  | bit6MemHl
  /-- `BIT 6,A`, 0xCB 0x77 (R310). -/
  | bit6A
  /-- `BIT 7,B`, 0xCB 0x78 (R310). -/
  | bit7B
  /-- `BIT 7,C`, 0xCB 0x79 (R310). -/
  | bit7C
  /-- `BIT 7,D`, 0xCB 0x7A (R310). -/
  | bit7D
  /-- `BIT 7,E`, 0xCB 0x7B (R310). -/
  | bit7E
  /-- `BIT 7,H`, 0xCB 0x7C (R310). -/
  | bit7H
  /-- `BIT 7,L`, 0xCB 0x7D (R310). -/
  | bit7L
  /-- `BIT 7,(HL)`, 0xCB 0x7E (R310). -/
  | bit7MemHl
  /-- `BIT 7,A`, 0xCB 0x7F (R310). -/
  | bit7A
  /-- `RES 0,B`, 0xCB 0x80 (R311). -/
  | res0B
  /-- `RES 0,C`, 0xCB 0x81 (R311). -/
  | res0C
  /-- `RES 0,D`, 0xCB 0x82 (R311). -/
  | res0D
  /-- `RES 0,E`, 0xCB 0x83 (R311). -/
  | res0E
  /-- `RES 0,H`, 0xCB 0x84 (R311). -/
  | res0H
  /-- `RES 0,L`, 0xCB 0x85 (R311). -/
  | res0L
  /-- `RES 0,(HL)`, 0xCB 0x86 (R311). -/
  | res0MemHl
  /-- `RES 0,A`, 0xCB 0x87 (R311). -/
  | res0A
  /-- `RES 1,B`, 0xCB 0x88 (R311). -/
  | res1B
  /-- `RES 1,C`, 0xCB 0x89 (R311). -/
  | res1C
  /-- `RES 1,D`, 0xCB 0x8A (R311). -/
  | res1D
  /-- `RES 1,E`, 0xCB 0x8B (R311). -/
  | res1E
  /-- `RES 1,H`, 0xCB 0x8C (R311). -/
  | res1H
  /-- `RES 1,L`, 0xCB 0x8D (R311). -/
  | res1L
  /-- `RES 1,(HL)`, 0xCB 0x8E (R311). -/
  | res1MemHl
  /-- `RES 1,A`, 0xCB 0x8F (R311). -/
  | res1A
  /-- `RES 2,B`, 0xCB 0x90 (R311). -/
  | res2B
  /-- `RES 2,C`, 0xCB 0x91 (R311). -/
  | res2C
  /-- `RES 2,D`, 0xCB 0x92 (R311). -/
  | res2D
  /-- `RES 2,E`, 0xCB 0x93 (R311). -/
  | res2E
  /-- `RES 2,H`, 0xCB 0x94 (R311). -/
  | res2H
  /-- `RES 2,L`, 0xCB 0x95 (R311). -/
  | res2L
  /-- `RES 2,(HL)`, 0xCB 0x96 (R311). -/
  | res2MemHl
  /-- `RES 2,A`, 0xCB 0x97 (R311). -/
  | res2A
  /-- `RES 3,B`, 0xCB 0x98 (R311). -/
  | res3B
  /-- `RES 3,C`, 0xCB 0x99 (R311). -/
  | res3C
  /-- `RES 3,D`, 0xCB 0x9A (R311). -/
  | res3D
  /-- `RES 3,E`, 0xCB 0x9B (R311). -/
  | res3E
  /-- `RES 3,H`, 0xCB 0x9C (R311). -/
  | res3H
  /-- `RES 3,L`, 0xCB 0x9D (R311). -/
  | res3L
  /-- `RES 3,(HL)`, 0xCB 0x9E (R311). -/
  | res3MemHl
  /-- `RES 3,A`, 0xCB 0x9F (R311). -/
  | res3A
  /-- `RES 4,B`, 0xCB 0xA0 (R311). -/
  | res4B
  /-- `RES 4,C`, 0xCB 0xA1 (R311). -/
  | res4C
  /-- `RES 4,D`, 0xCB 0xA2 (R311). -/
  | res4D
  /-- `RES 4,E`, 0xCB 0xA3 (R311). -/
  | res4E
  /-- `RES 4,H`, 0xCB 0xA4 (R311). -/
  | res4H
  /-- `RES 4,L`, 0xCB 0xA5 (R311). -/
  | res4L
  /-- `RES 4,(HL)`, 0xCB 0xA6 (R311). -/
  | res4MemHl
  /-- `RES 4,A`, 0xCB 0xA7 (R311). -/
  | res4A
  /-- `RES 5,B`, 0xCB 0xA8 (R311). -/
  | res5B
  /-- `RES 5,C`, 0xCB 0xA9 (R311). -/
  | res5C
  /-- `RES 5,D`, 0xCB 0xAA (R311). -/
  | res5D
  /-- `RES 5,E`, 0xCB 0xAB (R311). -/
  | res5E
  /-- `RES 5,H`, 0xCB 0xAC (R311). -/
  | res5H
  /-- `RES 5,L`, 0xCB 0xAD (R311). -/
  | res5L
  /-- `RES 5,(HL)`, 0xCB 0xAE (R311). -/
  | res5MemHl
  /-- `RES 5,A`, 0xCB 0xAF (R311). -/
  | res5A
  /-- `RES 6,B`, 0xCB 0xB0 (R311). -/
  | res6B
  /-- `RES 6,C`, 0xCB 0xB1 (R311). -/
  | res6C
  /-- `RES 6,D`, 0xCB 0xB2 (R311). -/
  | res6D
  /-- `RES 6,E`, 0xCB 0xB3 (R311). -/
  | res6E
  /-- `RES 6,H`, 0xCB 0xB4 (R311). -/
  | res6H
  /-- `RES 6,L`, 0xCB 0xB5 (R311). -/
  | res6L
  /-- `RES 6,(HL)`, 0xCB 0xB6 (R311). -/
  | res6MemHl
  /-- `RES 6,A`, 0xCB 0xB7 (R311). -/
  | res6A
  /-- `RES 7,B`, 0xCB 0xB8 (R311). -/
  | res7B
  /-- `RES 7,C`, 0xCB 0xB9 (R311). -/
  | res7C
  /-- `RES 7,D`, 0xCB 0xBA (R311). -/
  | res7D
  /-- `RES 7,E`, 0xCB 0xBB (R311). -/
  | res7E
  /-- `RES 7,H`, 0xCB 0xBC (R311). -/
  | res7H
  /-- `RES 7,L`, 0xCB 0xBD (R311). -/
  | res7L
  /-- `RES 7,(HL)`, 0xCB 0xBE (R311). -/
  | res7MemHl
  /-- `RES 7,A`, 0xCB 0xBF (R311). -/
  | res7A
  /-- `SET 0,B`, 0xCB 0xC0 (R312). -/
  | set0B
  /-- `SET 0,C`, 0xCB 0xC1 (R312). -/
  | set0C
  /-- `SET 0,D`, 0xCB 0xC2 (R312). -/
  | set0D
  /-- `SET 0,E`, 0xCB 0xC3 (R312). -/
  | set0E
  /-- `SET 0,H`, 0xCB 0xC4 (R312). -/
  | set0H
  /-- `SET 0,L`, 0xCB 0xC5 (R312). -/
  | set0L
  /-- `SET 0,(HL)`, 0xCB 0xC6 (R312). -/
  | set0MemHl
  /-- `SET 0,A`, 0xCB 0xC7 (R312). -/
  | set0A
  /-- `SET 1,B`, 0xCB 0xC8 (R312). -/
  | set1B
  /-- `SET 1,C`, 0xCB 0xC9 (R312). -/
  | set1C
  /-- `SET 1,D`, 0xCB 0xCA (R312). -/
  | set1D
  /-- `SET 1,E`, 0xCB 0xCB (R312). -/
  | set1E
  /-- `SET 1,H`, 0xCB 0xCC (R312). -/
  | set1H
  /-- `SET 1,L`, 0xCB 0xCD (R312). -/
  | set1L
  /-- `SET 1,(HL)`, 0xCB 0xCE (R312). -/
  | set1MemHl
  /-- `SET 1,A`, 0xCB 0xCF (R312). -/
  | set1A
  /-- `SET 2,B`, 0xCB 0xD0 (R312). -/
  | set2B
  /-- `SET 2,C`, 0xCB 0xD1 (R312). -/
  | set2C
  /-- `SET 2,D`, 0xCB 0xD2 (R312). -/
  | set2D
  /-- `SET 2,E`, 0xCB 0xD3 (R312). -/
  | set2E
  /-- `SET 2,H`, 0xCB 0xD4 (R312). -/
  | set2H
  /-- `SET 2,L`, 0xCB 0xD5 (R312). -/
  | set2L
  /-- `SET 2,(HL)`, 0xCB 0xD6 (R312). -/
  | set2MemHl
  /-- `SET 2,A`, 0xCB 0xD7 (R312). -/
  | set2A
  /-- `SET 3,B`, 0xCB 0xD8 (R312). -/
  | set3B
  /-- `SET 3,C`, 0xCB 0xD9 (R312). -/
  | set3C
  /-- `SET 3,D`, 0xCB 0xDA (R312). -/
  | set3D
  /-- `SET 3,E`, 0xCB 0xDB (R312). -/
  | set3E
  /-- `SET 3,H`, 0xCB 0xDC (R312). -/
  | set3H
  /-- `SET 3,L`, 0xCB 0xDD (R312). -/
  | set3L
  /-- `SET 3,(HL)`, 0xCB 0xDE (R312). -/
  | set3MemHl
  /-- `SET 3,A`, 0xCB 0xDF (R312). -/
  | set3A
  /-- `SET 4,B`, 0xCB 0xE0 (R312). -/
  | set4B
  /-- `SET 4,C`, 0xCB 0xE1 (R312). -/
  | set4C
  /-- `SET 4,D`, 0xCB 0xE2 (R312). -/
  | set4D
  /-- `SET 4,E`, 0xCB 0xE3 (R312). -/
  | set4E
  /-- `SET 4,H`, 0xCB 0xE4 (R312). -/
  | set4H
  /-- `SET 4,L`, 0xCB 0xE5 (R312). -/
  | set4L
  /-- `SET 4,(HL)`, 0xCB 0xE6 (R312). -/
  | set4MemHl
  /-- `SET 4,A`, 0xCB 0xE7 (R312). -/
  | set4A
  /-- `SET 5,B`, 0xCB 0xE8 (R312). -/
  | set5B
  /-- `SET 5,C`, 0xCB 0xE9 (R312). -/
  | set5C
  /-- `SET 5,D`, 0xCB 0xEA (R312). -/
  | set5D
  /-- `SET 5,E`, 0xCB 0xEB (R312). -/
  | set5E
  /-- `SET 5,H`, 0xCB 0xEC (R312). -/
  | set5H
  /-- `SET 5,L`, 0xCB 0xED (R312). -/
  | set5L
  /-- `SET 5,(HL)`, 0xCB 0xEE (R312). -/
  | set5MemHl
  /-- `SET 5,A`, 0xCB 0xEF (R312). -/
  | set5A
  /-- `SET 6,B`, 0xCB 0xF0 (R312). -/
  | set6B
  /-- `SET 6,C`, 0xCB 0xF1 (R312). -/
  | set6C
  /-- `SET 6,D`, 0xCB 0xF2 (R312). -/
  | set6D
  /-- `SET 6,E`, 0xCB 0xF3 (R312). -/
  | set6E
  /-- `SET 6,H`, 0xCB 0xF4 (R312). -/
  | set6H
  /-- `SET 6,L`, 0xCB 0xF5 (R312). -/
  | set6L
  /-- `SET 6,(HL)`, 0xCB 0xF6 (R312). -/
  | set6MemHl
  /-- `SET 6,A`, 0xCB 0xF7 (R312). -/
  | set6A
  /-- `SET 7,B`, 0xCB 0xF8 (R312). -/
  | set7B
  /-- `SET 7,C`, 0xCB 0xF9 (R312). -/
  | set7C
  /-- `SET 7,D`, 0xCB 0xFA (R312). -/
  | set7D
  /-- `SET 7,E`, 0xCB 0xFB (R312). -/
  | set7E
  /-- `SET 7,H`, 0xCB 0xFC (R312). -/
  | set7H
  /-- `SET 7,L`, 0xCB 0xFD (R312). -/
  | set7L
  /-- `SET 7,(HL)`, 0xCB 0xFE (R312). -/
  | set7MemHl
  /-- `SET 7,A`, 0xCB 0xFF (R312). -/
  | set7A
deriving DecidableEq, Repr

end Sys2Proof
end

