-- ==== Sys2Proof/Forms.lean ====
section
/-! DEFINITION. The operand tables of R124 to R129 and the instruction FORMS, one per rule of spec/40_ld8.md to
spec/48_control_misc.md, with the row of the opcode table each form and operand choice names (`Form.row`) and back
(`Instr.form`). The machine does not use them: rows decode and run on their own. Statements and proofs do: they speak of a
rule's instruction with all its operand choices, and a case split over the table's rows becomes one over the rules. -/

namespace Sys2Proof

/-- The seven registers an operand code selects (R124, codes 0 to 5 and 7). -/
inductive Reg where
  | b | c | d | e | h | l | a
deriving DecidableEq, Repr

/-- The 8-bit operand table `r8` (R124): a register, or the memory byte at HL (code 6). -/
inductive R8 where
  | reg (r : Reg)
  | memHl
deriving DecidableEq, Repr

/-- The 16-bit operand table `rr` (R125). -/
inductive Pair where
  | bc | de | hl | sp
deriving DecidableEq, Repr

/-- The 16-bit stack operand table `rr2` (R126). -/
inductive StackPair where
  | bc | de | hl | af
deriving DecidableEq, Repr

/-- The accumulator operations (R127). -/
inductive Alu where
  | add | adc | sub | sbc | and | xor | or | cp
deriving DecidableEq, Repr

/-- The CB page's rotates and shifts (R128). -/
inductive Rot where
  | rlc | rrc | rl | rr | sla | sra | swap | srl
deriving DecidableEq, Repr

/-- The condition codes (R129). -/
inductive Cond where
  | nz | z | nc | c
deriving DecidableEq, Repr

/-- The eleven undefined first bytes (R140). -/
inductive Undefined where
  | xD3 | xDB | xDD | xE3 | xE4 | xEB | xEC | xED | xF4 | xFC | xFD
deriving DecidableEq, Repr

/-- The undefined byte itself (R140). -/
def Undefined.byte : Undefined → Byte
  | .xD3 => 0xD3 | .xDB => 0xDB | .xDD => 0xDD | .xE3 => 0xE3 | .xE4 => 0xE4 | .xEB => 0xEB
  | .xEC => 0xEC | .xED => 0xED | .xF4 => 0xF4 | .xFC => 0xFC | .xFD => 0xFD

/-- The code of a register in an opcode field (R124). -/
def Reg.code : Reg → Nat
  | .b => 0 | .c => 1 | .d => 2 | .e => 3 | .h => 4 | .l => 5 | .a => 7

/-- The code of an 8-bit operand in an opcode field (R124). -/
def R8.code : R8 → Nat
  | .reg r => r.code
  | .memHl => 6

/-- The code of a 16-bit operand (R125). -/
def Pair.code : Pair → Nat
  | .bc => 0 | .de => 1 | .hl => 2 | .sp => 3

/-- The code of a 16-bit stack operand (R126). -/
def StackPair.code : StackPair → Nat
  | .bc => 0 | .de => 1 | .hl => 2 | .af => 3

/-- The code of an accumulator operation (R127). -/
def Alu.code : Alu → Nat
  | .add => 0 | .adc => 1 | .sub => 2 | .sbc => 3 | .and => 4 | .xor => 5 | .or => 6 | .cp => 7

/-- The code of a rotate or shift (R128). -/
def Rot.code : Rot → Nat
  | .rlc => 0 | .rrc => 1 | .rl => 2 | .rr => 3 | .sla => 4 | .sra => 5 | .swap => 6 | .srl => 7

/-- The code of a condition (R129). -/
def Cond.code : Cond → Nat
  | .nz => 0 | .z => 1 | .nc => 2 | .c => 3

/-- The instruction forms, one per rule of spec/40_ld8.md to spec/48_control_misc.md, with their operand choices. -/
inductive Form where
  | nop | halt | stop (pad : Byte) | di | ei
  | ldRegReg (dst src : Reg) | ldRegMemHl (dst : Reg) | ldMemHlReg (src : Reg)
  | ldRegD8 (dst : Reg) (d8 : Byte) | ldMemHlD8 (d8 : Byte)
  | ldAMemBc | ldAMemDe | ldMemBcA | ldMemDeA
  | ldMemHlIncA | ldAMemHlInc | ldMemHlDecA | ldAMemHlDec
  | ldhMemA8A (a8 : Byte) | ldhAMemA8 (a8 : Byte) | ldMemCA | ldAMemC
  | ldMemA16A (a16 : Word) | ldAMemA16 (a16 : Word)
  | ldPairD16 (dst : Pair) (d16 : Word) | ldMemA16Sp (a16 : Word) | ldSpHl
  | push (src : StackPair) | pop (dst : StackPair)
  | alu (op : Alu) (x : R8) | aluD8 (op : Alu) (d8 : Byte)
  | inc (x : R8) | dec (x : R8) | daa | cpl | scf | ccf
  | addHl (src : Pair) | incPair (p : Pair) | decPair (p : Pair) | addSpR8 (r8 : Byte) | ldHlSpPlusR8 (r8 : Byte)
  | rlca | rla | rrca | rra
  | cbRot (op : Rot) (x : R8)
  | bit (b : Fin 8) (x : R8) | res (b : Fin 8) (x : R8) | set (b : Fin 8) (x : R8)
  | jpA16 (a16 : Word) | jpCc (cc : Cond) (a16 : Word) | jpMemHl
  | jrR8 (r8 : Byte) | jrCc (cc : Cond) (r8 : Byte)
  | callA16 (a16 : Word) | callCc (cc : Cond) (a16 : Word)
  | ret | retCc (cc : Cond) | reti | rst (t : Fin 8)
  | prefixCb
  | undefined (u : Undefined)
deriving DecidableEq, Repr

/-! ## The row of a form -/

/-- The row of `LD r,r'` (R161). -/
def Row.ldRegReg : Reg → Reg → Instr
  | .b, .b => .ldBB
  | .b, .c => .ldBC
  | .b, .d => .ldBD
  | .b, .e => .ldBE
  | .b, .h => .ldBH
  | .b, .l => .ldBL
  | .b, .a => .ldBA
  | .c, .b => .ldCB
  | .c, .c => .ldCC
  | .c, .d => .ldCD
  | .c, .e => .ldCE
  | .c, .h => .ldCH
  | .c, .l => .ldCL
  | .c, .a => .ldCA
  | .d, .b => .ldDB
  | .d, .c => .ldDC
  | .d, .d => .ldDD
  | .d, .e => .ldDE
  | .d, .h => .ldDH
  | .d, .l => .ldDL
  | .d, .a => .ldDA
  | .e, .b => .ldEB
  | .e, .c => .ldEC
  | .e, .d => .ldED
  | .e, .e => .ldEE
  | .e, .h => .ldEH
  | .e, .l => .ldEL
  | .e, .a => .ldEA
  | .h, .b => .ldHB
  | .h, .c => .ldHC
  | .h, .d => .ldHD
  | .h, .e => .ldHE
  | .h, .h => .ldHH
  | .h, .l => .ldHL
  | .h, .a => .ldHA
  | .l, .b => .ldLB
  | .l, .c => .ldLC
  | .l, .d => .ldLD
  | .l, .e => .ldLE
  | .l, .h => .ldLH
  | .l, .l => .ldLL
  | .l, .a => .ldLA
  | .a, .b => .ldAB
  | .a, .c => .ldAC
  | .a, .d => .ldAD
  | .a, .e => .ldAE
  | .a, .h => .ldAH
  | .a, .l => .ldAL
  | .a, .a => .ldAA

/-- The row of `LD r,(HL)` (R162). -/
def Row.ldRegMemHl : Reg → Instr
  | .b => .ldBMemHl
  | .c => .ldCMemHl
  | .d => .ldDMemHl
  | .e => .ldEMemHl
  | .h => .ldHMemHl
  | .l => .ldLMemHl
  | .a => .ldAMemHl

/-- The row of `LD (HL),r` (R163). -/
def Row.ldMemHlReg : Reg → Instr
  | .b => .ldMemHlB
  | .c => .ldMemHlC
  | .d => .ldMemHlD
  | .e => .ldMemHlE
  | .h => .ldMemHlH
  | .l => .ldMemHlL
  | .a => .ldMemHlA

/-- The row of `LD r,d8` (R164). -/
def Row.ldRegD8 : Reg → Byte → Instr
  | .b, d8 => .ldBD8 d8
  | .c, d8 => .ldCD8 d8
  | .d, d8 => .ldDD8 d8
  | .e, d8 => .ldED8 d8
  | .h, d8 => .ldHD8 d8
  | .l, d8 => .ldLD8 d8
  | .a, d8 => .ldAD8 d8

/-- The row of `LD rr,d16` (R202). -/
def Row.ldPairD16 : Pair → Word → Instr
  | .bc, d16 => .ldBcD16 d16
  | .de, d16 => .ldDeD16 d16
  | .hl, d16 => .ldHlD16 d16
  | .sp, d16 => .ldSpD16 d16

/-- The row of `PUSH rr` (R205, R206). -/
def Row.push : StackPair → Instr
  | .bc => .pushBc
  | .de => .pushDe
  | .hl => .pushHl
  | .af => .pushAf

/-- The row of `POP rr` (R207, R208). -/
def Row.pop : StackPair → Instr
  | .bc => .popBc
  | .de => .popDe
  | .hl => .popHl
  | .af => .popAf

/-- The row of an accumulator operation on an 8-bit operand (R221 to R228). -/
def Row.alu : Alu → R8 → Instr
  | .add, .reg .b => .addAB
  | .add, .reg .c => .addAC
  | .add, .reg .d => .addAD
  | .add, .reg .e => .addAE
  | .add, .reg .h => .addAH
  | .add, .reg .l => .addAL
  | .add, .memHl => .addAMemHl
  | .add, .reg .a => .addAA
  | .adc, .reg .b => .adcAB
  | .adc, .reg .c => .adcAC
  | .adc, .reg .d => .adcAD
  | .adc, .reg .e => .adcAE
  | .adc, .reg .h => .adcAH
  | .adc, .reg .l => .adcAL
  | .adc, .memHl => .adcAMemHl
  | .adc, .reg .a => .adcAA
  | .sub, .reg .b => .subB
  | .sub, .reg .c => .subC
  | .sub, .reg .d => .subD
  | .sub, .reg .e => .subE
  | .sub, .reg .h => .subH
  | .sub, .reg .l => .subL
  | .sub, .memHl => .subMemHl
  | .sub, .reg .a => .subA
  | .sbc, .reg .b => .sbcAB
  | .sbc, .reg .c => .sbcAC
  | .sbc, .reg .d => .sbcAD
  | .sbc, .reg .e => .sbcAE
  | .sbc, .reg .h => .sbcAH
  | .sbc, .reg .l => .sbcAL
  | .sbc, .memHl => .sbcAMemHl
  | .sbc, .reg .a => .sbcAA
  | .and, .reg .b => .andB
  | .and, .reg .c => .andC
  | .and, .reg .d => .andD
  | .and, .reg .e => .andE
  | .and, .reg .h => .andH
  | .and, .reg .l => .andL
  | .and, .memHl => .andMemHl
  | .and, .reg .a => .andA
  | .xor, .reg .b => .xorB
  | .xor, .reg .c => .xorC
  | .xor, .reg .d => .xorD
  | .xor, .reg .e => .xorE
  | .xor, .reg .h => .xorH
  | .xor, .reg .l => .xorL
  | .xor, .memHl => .xorMemHl
  | .xor, .reg .a => .xorA
  | .or, .reg .b => .orB
  | .or, .reg .c => .orC
  | .or, .reg .d => .orD
  | .or, .reg .e => .orE
  | .or, .reg .h => .orH
  | .or, .reg .l => .orL
  | .or, .memHl => .orMemHl
  | .or, .reg .a => .orA
  | .cp, .reg .b => .cpB
  | .cp, .reg .c => .cpC
  | .cp, .reg .d => .cpD
  | .cp, .reg .e => .cpE
  | .cp, .reg .h => .cpH
  | .cp, .reg .l => .cpL
  | .cp, .memHl => .cpMemHl
  | .cp, .reg .a => .cpA

/-- The row of an accumulator operation on an immediate (R221 to R228). -/
def Row.aluD8 : Alu → Byte → Instr
  | .add, d8 => .addAD8 d8
  | .adc, d8 => .adcAD8 d8
  | .sub, d8 => .subD8 d8
  | .sbc, d8 => .sbcAD8 d8
  | .and, d8 => .andD8 d8
  | .xor, d8 => .xorD8 d8
  | .or, d8 => .orD8 d8
  | .cp, d8 => .cpD8 d8

/-- The row of `INC r`, `INC (HL)` (R229, R230). -/
def Row.inc : R8 → Instr
  | .reg .b => .incB
  | .reg .c => .incC
  | .reg .d => .incD
  | .reg .e => .incE
  | .reg .h => .incH
  | .reg .l => .incL
  | .memHl => .incMemHl
  | .reg .a => .incA

/-- The row of `DEC r`, `DEC (HL)` (R231, R232). -/
def Row.dec : R8 → Instr
  | .reg .b => .decB
  | .reg .c => .decC
  | .reg .d => .decD
  | .reg .e => .decE
  | .reg .h => .decH
  | .reg .l => .decL
  | .memHl => .decMemHl
  | .reg .a => .decA

/-- The row of `ADD HL,rr` (R260). -/
def Row.addHl : Pair → Instr
  | .bc => .addHlBc
  | .de => .addHlDe
  | .hl => .addHlHl
  | .sp => .addHlSp

/-- The row of `INC rr` (R261). -/
def Row.incPair : Pair → Instr
  | .bc => .incBc
  | .de => .incDe
  | .hl => .incHl
  | .sp => .incSp

/-- The row of `DEC rr` (R262). -/
def Row.decPair : Pair → Instr
  | .bc => .decBc
  | .de => .decDe
  | .hl => .decHl
  | .sp => .decSp

/-- The row of a CB-page rotate or shift (R291 to R298). -/
def Row.cbRot : Rot → R8 → Instr
  | .rlc, .reg .b => .cbRlcB
  | .rlc, .reg .c => .cbRlcC
  | .rlc, .reg .d => .cbRlcD
  | .rlc, .reg .e => .cbRlcE
  | .rlc, .reg .h => .cbRlcH
  | .rlc, .reg .l => .cbRlcL
  | .rlc, .memHl => .cbRlcMemHl
  | .rlc, .reg .a => .cbRlcA
  | .rrc, .reg .b => .cbRrcB
  | .rrc, .reg .c => .cbRrcC
  | .rrc, .reg .d => .cbRrcD
  | .rrc, .reg .e => .cbRrcE
  | .rrc, .reg .h => .cbRrcH
  | .rrc, .reg .l => .cbRrcL
  | .rrc, .memHl => .cbRrcMemHl
  | .rrc, .reg .a => .cbRrcA
  | .rl, .reg .b => .cbRlB
  | .rl, .reg .c => .cbRlC
  | .rl, .reg .d => .cbRlD
  | .rl, .reg .e => .cbRlE
  | .rl, .reg .h => .cbRlH
  | .rl, .reg .l => .cbRlL
  | .rl, .memHl => .cbRlMemHl
  | .rl, .reg .a => .cbRlA
  | .rr, .reg .b => .cbRrB
  | .rr, .reg .c => .cbRrC
  | .rr, .reg .d => .cbRrD
  | .rr, .reg .e => .cbRrE
  | .rr, .reg .h => .cbRrH
  | .rr, .reg .l => .cbRrL
  | .rr, .memHl => .cbRrMemHl
  | .rr, .reg .a => .cbRrA
  | .sla, .reg .b => .cbSlaB
  | .sla, .reg .c => .cbSlaC
  | .sla, .reg .d => .cbSlaD
  | .sla, .reg .e => .cbSlaE
  | .sla, .reg .h => .cbSlaH
  | .sla, .reg .l => .cbSlaL
  | .sla, .memHl => .cbSlaMemHl
  | .sla, .reg .a => .cbSlaA
  | .sra, .reg .b => .cbSraB
  | .sra, .reg .c => .cbSraC
  | .sra, .reg .d => .cbSraD
  | .sra, .reg .e => .cbSraE
  | .sra, .reg .h => .cbSraH
  | .sra, .reg .l => .cbSraL
  | .sra, .memHl => .cbSraMemHl
  | .sra, .reg .a => .cbSraA
  | .swap, .reg .b => .cbSwapB
  | .swap, .reg .c => .cbSwapC
  | .swap, .reg .d => .cbSwapD
  | .swap, .reg .e => .cbSwapE
  | .swap, .reg .h => .cbSwapH
  | .swap, .reg .l => .cbSwapL
  | .swap, .memHl => .cbSwapMemHl
  | .swap, .reg .a => .cbSwapA
  | .srl, .reg .b => .cbSrlB
  | .srl, .reg .c => .cbSrlC
  | .srl, .reg .d => .cbSrlD
  | .srl, .reg .e => .cbSrlE
  | .srl, .reg .h => .cbSrlH
  | .srl, .reg .l => .cbSrlL
  | .srl, .memHl => .cbSrlMemHl
  | .srl, .reg .a => .cbSrlA

/-- The row of `BIT b,x` (R310). -/
def Row.bit : Fin 8 → R8 → Instr
  | 0, .reg .b => .bit0B
  | 0, .reg .c => .bit0C
  | 0, .reg .d => .bit0D
  | 0, .reg .e => .bit0E
  | 0, .reg .h => .bit0H
  | 0, .reg .l => .bit0L
  | 0, .memHl => .bit0MemHl
  | 0, .reg .a => .bit0A
  | 1, .reg .b => .bit1B
  | 1, .reg .c => .bit1C
  | 1, .reg .d => .bit1D
  | 1, .reg .e => .bit1E
  | 1, .reg .h => .bit1H
  | 1, .reg .l => .bit1L
  | 1, .memHl => .bit1MemHl
  | 1, .reg .a => .bit1A
  | 2, .reg .b => .bit2B
  | 2, .reg .c => .bit2C
  | 2, .reg .d => .bit2D
  | 2, .reg .e => .bit2E
  | 2, .reg .h => .bit2H
  | 2, .reg .l => .bit2L
  | 2, .memHl => .bit2MemHl
  | 2, .reg .a => .bit2A
  | 3, .reg .b => .bit3B
  | 3, .reg .c => .bit3C
  | 3, .reg .d => .bit3D
  | 3, .reg .e => .bit3E
  | 3, .reg .h => .bit3H
  | 3, .reg .l => .bit3L
  | 3, .memHl => .bit3MemHl
  | 3, .reg .a => .bit3A
  | 4, .reg .b => .bit4B
  | 4, .reg .c => .bit4C
  | 4, .reg .d => .bit4D
  | 4, .reg .e => .bit4E
  | 4, .reg .h => .bit4H
  | 4, .reg .l => .bit4L
  | 4, .memHl => .bit4MemHl
  | 4, .reg .a => .bit4A
  | 5, .reg .b => .bit5B
  | 5, .reg .c => .bit5C
  | 5, .reg .d => .bit5D
  | 5, .reg .e => .bit5E
  | 5, .reg .h => .bit5H
  | 5, .reg .l => .bit5L
  | 5, .memHl => .bit5MemHl
  | 5, .reg .a => .bit5A
  | 6, .reg .b => .bit6B
  | 6, .reg .c => .bit6C
  | 6, .reg .d => .bit6D
  | 6, .reg .e => .bit6E
  | 6, .reg .h => .bit6H
  | 6, .reg .l => .bit6L
  | 6, .memHl => .bit6MemHl
  | 6, .reg .a => .bit6A
  | 7, .reg .b => .bit7B
  | 7, .reg .c => .bit7C
  | 7, .reg .d => .bit7D
  | 7, .reg .e => .bit7E
  | 7, .reg .h => .bit7H
  | 7, .reg .l => .bit7L
  | 7, .memHl => .bit7MemHl
  | 7, .reg .a => .bit7A

/-- The row of `RES b,x` (R311). -/
def Row.res : Fin 8 → R8 → Instr
  | 0, .reg .b => .res0B
  | 0, .reg .c => .res0C
  | 0, .reg .d => .res0D
  | 0, .reg .e => .res0E
  | 0, .reg .h => .res0H
  | 0, .reg .l => .res0L
  | 0, .memHl => .res0MemHl
  | 0, .reg .a => .res0A
  | 1, .reg .b => .res1B
  | 1, .reg .c => .res1C
  | 1, .reg .d => .res1D
  | 1, .reg .e => .res1E
  | 1, .reg .h => .res1H
  | 1, .reg .l => .res1L
  | 1, .memHl => .res1MemHl
  | 1, .reg .a => .res1A
  | 2, .reg .b => .res2B
  | 2, .reg .c => .res2C
  | 2, .reg .d => .res2D
  | 2, .reg .e => .res2E
  | 2, .reg .h => .res2H
  | 2, .reg .l => .res2L
  | 2, .memHl => .res2MemHl
  | 2, .reg .a => .res2A
  | 3, .reg .b => .res3B
  | 3, .reg .c => .res3C
  | 3, .reg .d => .res3D
  | 3, .reg .e => .res3E
  | 3, .reg .h => .res3H
  | 3, .reg .l => .res3L
  | 3, .memHl => .res3MemHl
  | 3, .reg .a => .res3A
  | 4, .reg .b => .res4B
  | 4, .reg .c => .res4C
  | 4, .reg .d => .res4D
  | 4, .reg .e => .res4E
  | 4, .reg .h => .res4H
  | 4, .reg .l => .res4L
  | 4, .memHl => .res4MemHl
  | 4, .reg .a => .res4A
  | 5, .reg .b => .res5B
  | 5, .reg .c => .res5C
  | 5, .reg .d => .res5D
  | 5, .reg .e => .res5E
  | 5, .reg .h => .res5H
  | 5, .reg .l => .res5L
  | 5, .memHl => .res5MemHl
  | 5, .reg .a => .res5A
  | 6, .reg .b => .res6B
  | 6, .reg .c => .res6C
  | 6, .reg .d => .res6D
  | 6, .reg .e => .res6E
  | 6, .reg .h => .res6H
  | 6, .reg .l => .res6L
  | 6, .memHl => .res6MemHl
  | 6, .reg .a => .res6A
  | 7, .reg .b => .res7B
  | 7, .reg .c => .res7C
  | 7, .reg .d => .res7D
  | 7, .reg .e => .res7E
  | 7, .reg .h => .res7H
  | 7, .reg .l => .res7L
  | 7, .memHl => .res7MemHl
  | 7, .reg .a => .res7A

/-- The row of `SET b,x` (R312). -/
def Row.set : Fin 8 → R8 → Instr
  | 0, .reg .b => .set0B
  | 0, .reg .c => .set0C
  | 0, .reg .d => .set0D
  | 0, .reg .e => .set0E
  | 0, .reg .h => .set0H
  | 0, .reg .l => .set0L
  | 0, .memHl => .set0MemHl
  | 0, .reg .a => .set0A
  | 1, .reg .b => .set1B
  | 1, .reg .c => .set1C
  | 1, .reg .d => .set1D
  | 1, .reg .e => .set1E
  | 1, .reg .h => .set1H
  | 1, .reg .l => .set1L
  | 1, .memHl => .set1MemHl
  | 1, .reg .a => .set1A
  | 2, .reg .b => .set2B
  | 2, .reg .c => .set2C
  | 2, .reg .d => .set2D
  | 2, .reg .e => .set2E
  | 2, .reg .h => .set2H
  | 2, .reg .l => .set2L
  | 2, .memHl => .set2MemHl
  | 2, .reg .a => .set2A
  | 3, .reg .b => .set3B
  | 3, .reg .c => .set3C
  | 3, .reg .d => .set3D
  | 3, .reg .e => .set3E
  | 3, .reg .h => .set3H
  | 3, .reg .l => .set3L
  | 3, .memHl => .set3MemHl
  | 3, .reg .a => .set3A
  | 4, .reg .b => .set4B
  | 4, .reg .c => .set4C
  | 4, .reg .d => .set4D
  | 4, .reg .e => .set4E
  | 4, .reg .h => .set4H
  | 4, .reg .l => .set4L
  | 4, .memHl => .set4MemHl
  | 4, .reg .a => .set4A
  | 5, .reg .b => .set5B
  | 5, .reg .c => .set5C
  | 5, .reg .d => .set5D
  | 5, .reg .e => .set5E
  | 5, .reg .h => .set5H
  | 5, .reg .l => .set5L
  | 5, .memHl => .set5MemHl
  | 5, .reg .a => .set5A
  | 6, .reg .b => .set6B
  | 6, .reg .c => .set6C
  | 6, .reg .d => .set6D
  | 6, .reg .e => .set6E
  | 6, .reg .h => .set6H
  | 6, .reg .l => .set6L
  | 6, .memHl => .set6MemHl
  | 6, .reg .a => .set6A
  | 7, .reg .b => .set7B
  | 7, .reg .c => .set7C
  | 7, .reg .d => .set7D
  | 7, .reg .e => .set7E
  | 7, .reg .h => .set7H
  | 7, .reg .l => .set7L
  | 7, .memHl => .set7MemHl
  | 7, .reg .a => .set7A

/-- The row of `JP cc,a16` (R322). -/
def Row.jpCc : Cond → Word → Instr
  | .nz, a16 => .jpNzA16 a16
  | .z, a16 => .jpZA16 a16
  | .nc, a16 => .jpNcA16 a16
  | .c, a16 => .jpCA16 a16

/-- The row of `JR cc,r8` (R325). -/
def Row.jrCc : Cond → Byte → Instr
  | .nz, r8 => .jrNzR8 r8
  | .z, r8 => .jrZR8 r8
  | .nc, r8 => .jrNcR8 r8
  | .c, r8 => .jrCR8 r8

/-- The row of `CALL cc,a16` (R327). -/
def Row.callCc : Cond → Word → Instr
  | .nz, a16 => .callNzA16 a16
  | .z, a16 => .callZA16 a16
  | .nc, a16 => .callNcA16 a16
  | .c, a16 => .callCA16 a16

/-- The row of `RET cc` (R329). -/
def Row.retCc : Cond → Instr
  | .nz => .retNz
  | .z => .retZ
  | .nc => .retNc
  | .c => .retC

/-- The row of `RST n` (R331). -/
def Row.rst : Fin 8 → Instr
  | 0 => .rst00H
  | 1 => .rst08H
  | 2 => .rst10H
  | 3 => .rst18H
  | 4 => .rst20H
  | 5 => .rst28H
  | 6 => .rst30H
  | 7 => .rst38H

/-- The row of an undefined first byte (R355). -/
def Row.undefined : Undefined → Instr
  | .xD3 => .illegalD3
  | .xDB => .illegalDB
  | .xDD => .illegalDD
  | .xE3 => .illegalE3
  | .xE4 => .illegalE4
  | .xEB => .illegalEB
  | .xEC => .illegalEC
  | .xED => .illegalED
  | .xF4 => .illegalF4
  | .xFC => .illegalFC
  | .xFD => .illegalFD

/-- The row of the opcode table that a form with its operand choices names. -/
def Form.row : Form → Instr
 | .nop => .nop
  | .ldPairD16 x d16 => Row.ldPairD16 x d16
 | .ldMemBcA => .ldMemBcA
  | .incPair x => Row.incPair x
  | .inc x => Row.inc x
  | .dec x => Row.dec x
  | .ldRegD8 x d8 => Row.ldRegD8 x d8
 | .rlca => .rlca
 | .ldMemA16Sp a16 => .ldMemA16Sp a16
  | .addHl x => Row.addHl x
 | .ldAMemBc => .ldAMemBc
  | .decPair x => Row.decPair x
 | .rrca => .rrca
 | .stop pad => .stop pad
 | .ldMemDeA => .ldMemDeA
 | .rla => .rla
 | .jrR8 r8 => .jrR8 r8
 | .ldAMemDe => .ldAMemDe
 | .rra => .rra
  | .jrCc x r8 => Row.jrCc x r8
 | .ldMemHlIncA => .ldMemHlIncA
 | .daa => .daa
 | .ldAMemHlInc => .ldAMemHlInc
 | .cpl => .cpl
 | .ldMemHlDecA => .ldMemHlDecA
 | .ldMemHlD8 d8 => .ldMemHlD8 d8
 | .scf => .scf
 | .ldAMemHlDec => .ldAMemHlDec
 | .ccf => .ccf
  | .ldRegReg x y => Row.ldRegReg x y
  | .ldRegMemHl x => Row.ldRegMemHl x
  | .ldMemHlReg x => Row.ldMemHlReg x
 | .halt => .halt
  | .alu x y => Row.alu x y
  | .retCc x => Row.retCc x
  | .pop x => Row.pop x
  | .jpCc x a16 => Row.jpCc x a16
 | .jpA16 a16 => .jpA16 a16
  | .callCc x a16 => Row.callCc x a16
  | .push x => Row.push x
  | .aluD8 x d8 => Row.aluD8 x d8
  | .rst x => Row.rst x
 | .ret => .ret
 | .prefixCb => .prefixCb
 | .callA16 a16 => .callA16 a16
  | .undefined x => Row.undefined x
 | .reti => .reti
 | .ldhMemA8A a8 => .ldhMemA8A a8
 | .ldMemCA => .ldMemCA
 | .addSpR8 r8 => .addSpR8 r8
 | .jpMemHl => .jpMemHl
 | .ldMemA16A a16 => .ldMemA16A a16
 | .ldhAMemA8 a8 => .ldhAMemA8 a8
 | .ldAMemC => .ldAMemC
 | .di => .di
 | .ldHlSpPlusR8 r8 => .ldHlSpPlusR8 r8
 | .ldSpHl => .ldSpHl
 | .ldAMemA16 a16 => .ldAMemA16 a16
 | .ei => .ei
  | .cbRot x y => Row.cbRot x y
  | .bit x y => Row.bit x y
  | .res x y => Row.res x y
  | .set x y => Row.set x y

/-- The form and the operand choices of a row. -/
def Instr.form : Instr → Form
  | .nop => .nop
  | .ldBcD16 d16 => .ldPairD16 .bc d16
  | .ldMemBcA => .ldMemBcA
  | .incBc => .incPair .bc
  | .incB => .inc (.reg .b)
  | .decB => .dec (.reg .b)
  | .ldBD8 d8 => .ldRegD8 .b d8
  | .rlca => .rlca
  | .ldMemA16Sp a16 => .ldMemA16Sp a16
  | .addHlBc => .addHl .bc
  | .ldAMemBc => .ldAMemBc
  | .decBc => .decPair .bc
  | .incC => .inc (.reg .c)
  | .decC => .dec (.reg .c)
  | .ldCD8 d8 => .ldRegD8 .c d8
  | .rrca => .rrca
  | .stop pad => .stop pad
  | .ldDeD16 d16 => .ldPairD16 .de d16
  | .ldMemDeA => .ldMemDeA
  | .incDe => .incPair .de
  | .incD => .inc (.reg .d)
  | .decD => .dec (.reg .d)
  | .ldDD8 d8 => .ldRegD8 .d d8
  | .rla => .rla
  | .jrR8 r8 => .jrR8 r8
  | .addHlDe => .addHl .de
  | .ldAMemDe => .ldAMemDe
  | .decDe => .decPair .de
  | .incE => .inc (.reg .e)
  | .decE => .dec (.reg .e)
  | .ldED8 d8 => .ldRegD8 .e d8
  | .rra => .rra
  | .jrNzR8 r8 => .jrCc .nz r8
  | .ldHlD16 d16 => .ldPairD16 .hl d16
  | .ldMemHlIncA => .ldMemHlIncA
  | .incHl => .incPair .hl
  | .incH => .inc (.reg .h)
  | .decH => .dec (.reg .h)
  | .ldHD8 d8 => .ldRegD8 .h d8
  | .daa => .daa
  | .jrZR8 r8 => .jrCc .z r8
  | .addHlHl => .addHl .hl
  | .ldAMemHlInc => .ldAMemHlInc
  | .decHl => .decPair .hl
  | .incL => .inc (.reg .l)
  | .decL => .dec (.reg .l)
  | .ldLD8 d8 => .ldRegD8 .l d8
  | .cpl => .cpl
  | .jrNcR8 r8 => .jrCc .nc r8
  | .ldSpD16 d16 => .ldPairD16 .sp d16
  | .ldMemHlDecA => .ldMemHlDecA
  | .incSp => .incPair .sp
  | .incMemHl => .inc .memHl
  | .decMemHl => .dec .memHl
  | .ldMemHlD8 d8 => .ldMemHlD8 d8
  | .scf => .scf
  | .jrCR8 r8 => .jrCc .c r8
  | .addHlSp => .addHl .sp
  | .ldAMemHlDec => .ldAMemHlDec
  | .decSp => .decPair .sp
  | .incA => .inc (.reg .a)
  | .decA => .dec (.reg .a)
  | .ldAD8 d8 => .ldRegD8 .a d8
  | .ccf => .ccf
  | .ldBB => .ldRegReg .b .b
  | .ldBC => .ldRegReg .b .c
  | .ldBD => .ldRegReg .b .d
  | .ldBE => .ldRegReg .b .e
  | .ldBH => .ldRegReg .b .h
  | .ldBL => .ldRegReg .b .l
  | .ldBMemHl => .ldRegMemHl .b
  | .ldBA => .ldRegReg .b .a
  | .ldCB => .ldRegReg .c .b
  | .ldCC => .ldRegReg .c .c
  | .ldCD => .ldRegReg .c .d
  | .ldCE => .ldRegReg .c .e
  | .ldCH => .ldRegReg .c .h
  | .ldCL => .ldRegReg .c .l
  | .ldCMemHl => .ldRegMemHl .c
  | .ldCA => .ldRegReg .c .a
  | .ldDB => .ldRegReg .d .b
  | .ldDC => .ldRegReg .d .c
  | .ldDD => .ldRegReg .d .d
  | .ldDE => .ldRegReg .d .e
  | .ldDH => .ldRegReg .d .h
  | .ldDL => .ldRegReg .d .l
  | .ldDMemHl => .ldRegMemHl .d
  | .ldDA => .ldRegReg .d .a
  | .ldEB => .ldRegReg .e .b
  | .ldEC => .ldRegReg .e .c
  | .ldED => .ldRegReg .e .d
  | .ldEE => .ldRegReg .e .e
  | .ldEH => .ldRegReg .e .h
  | .ldEL => .ldRegReg .e .l
  | .ldEMemHl => .ldRegMemHl .e
  | .ldEA => .ldRegReg .e .a
  | .ldHB => .ldRegReg .h .b
  | .ldHC => .ldRegReg .h .c
  | .ldHD => .ldRegReg .h .d
  | .ldHE => .ldRegReg .h .e
  | .ldHH => .ldRegReg .h .h
  | .ldHL => .ldRegReg .h .l
  | .ldHMemHl => .ldRegMemHl .h
  | .ldHA => .ldRegReg .h .a
  | .ldLB => .ldRegReg .l .b
  | .ldLC => .ldRegReg .l .c
  | .ldLD => .ldRegReg .l .d
  | .ldLE => .ldRegReg .l .e
  | .ldLH => .ldRegReg .l .h
  | .ldLL => .ldRegReg .l .l
  | .ldLMemHl => .ldRegMemHl .l
  | .ldLA => .ldRegReg .l .a
  | .ldMemHlB => .ldMemHlReg .b
  | .ldMemHlC => .ldMemHlReg .c
  | .ldMemHlD => .ldMemHlReg .d
  | .ldMemHlE => .ldMemHlReg .e
  | .ldMemHlH => .ldMemHlReg .h
  | .ldMemHlL => .ldMemHlReg .l
  | .halt => .halt
  | .ldMemHlA => .ldMemHlReg .a
  | .ldAB => .ldRegReg .a .b
  | .ldAC => .ldRegReg .a .c
  | .ldAD => .ldRegReg .a .d
  | .ldAE => .ldRegReg .a .e
  | .ldAH => .ldRegReg .a .h
  | .ldAL => .ldRegReg .a .l
  | .ldAMemHl => .ldRegMemHl .a
  | .ldAA => .ldRegReg .a .a
  | .addAB => .alu .add (.reg .b)
  | .addAC => .alu .add (.reg .c)
  | .addAD => .alu .add (.reg .d)
  | .addAE => .alu .add (.reg .e)
  | .addAH => .alu .add (.reg .h)
  | .addAL => .alu .add (.reg .l)
  | .addAMemHl => .alu .add .memHl
  | .addAA => .alu .add (.reg .a)
  | .adcAB => .alu .adc (.reg .b)
  | .adcAC => .alu .adc (.reg .c)
  | .adcAD => .alu .adc (.reg .d)
  | .adcAE => .alu .adc (.reg .e)
  | .adcAH => .alu .adc (.reg .h)
  | .adcAL => .alu .adc (.reg .l)
  | .adcAMemHl => .alu .adc .memHl
  | .adcAA => .alu .adc (.reg .a)
  | .subB => .alu .sub (.reg .b)
  | .subC => .alu .sub (.reg .c)
  | .subD => .alu .sub (.reg .d)
  | .subE => .alu .sub (.reg .e)
  | .subH => .alu .sub (.reg .h)
  | .subL => .alu .sub (.reg .l)
  | .subMemHl => .alu .sub .memHl
  | .subA => .alu .sub (.reg .a)
  | .sbcAB => .alu .sbc (.reg .b)
  | .sbcAC => .alu .sbc (.reg .c)
  | .sbcAD => .alu .sbc (.reg .d)
  | .sbcAE => .alu .sbc (.reg .e)
  | .sbcAH => .alu .sbc (.reg .h)
  | .sbcAL => .alu .sbc (.reg .l)
  | .sbcAMemHl => .alu .sbc .memHl
  | .sbcAA => .alu .sbc (.reg .a)
  | .andB => .alu .and (.reg .b)
  | .andC => .alu .and (.reg .c)
  | .andD => .alu .and (.reg .d)
  | .andE => .alu .and (.reg .e)
  | .andH => .alu .and (.reg .h)
  | .andL => .alu .and (.reg .l)
  | .andMemHl => .alu .and .memHl
  | .andA => .alu .and (.reg .a)
  | .xorB => .alu .xor (.reg .b)
  | .xorC => .alu .xor (.reg .c)
  | .xorD => .alu .xor (.reg .d)
  | .xorE => .alu .xor (.reg .e)
  | .xorH => .alu .xor (.reg .h)
  | .xorL => .alu .xor (.reg .l)
  | .xorMemHl => .alu .xor .memHl
  | .xorA => .alu .xor (.reg .a)
  | .orB => .alu .or (.reg .b)
  | .orC => .alu .or (.reg .c)
  | .orD => .alu .or (.reg .d)
  | .orE => .alu .or (.reg .e)
  | .orH => .alu .or (.reg .h)
  | .orL => .alu .or (.reg .l)
  | .orMemHl => .alu .or .memHl
  | .orA => .alu .or (.reg .a)
  | .cpB => .alu .cp (.reg .b)
  | .cpC => .alu .cp (.reg .c)
  | .cpD => .alu .cp (.reg .d)
  | .cpE => .alu .cp (.reg .e)
  | .cpH => .alu .cp (.reg .h)
  | .cpL => .alu .cp (.reg .l)
  | .cpMemHl => .alu .cp .memHl
  | .cpA => .alu .cp (.reg .a)
  | .retNz => .retCc .nz
  | .popBc => .pop .bc
  | .jpNzA16 a16 => .jpCc .nz a16
  | .jpA16 a16 => .jpA16 a16
  | .callNzA16 a16 => .callCc .nz a16
  | .pushBc => .push .bc
  | .addAD8 d8 => .aluD8 .add d8
  | .rst00H => .rst 0
  | .retZ => .retCc .z
  | .ret => .ret
  | .jpZA16 a16 => .jpCc .z a16
  | .prefixCb => .prefixCb
  | .callZA16 a16 => .callCc .z a16
  | .callA16 a16 => .callA16 a16
  | .adcAD8 d8 => .aluD8 .adc d8
  | .rst08H => .rst 1
  | .retNc => .retCc .nc
  | .popDe => .pop .de
  | .jpNcA16 a16 => .jpCc .nc a16
  | .illegalD3 => .undefined .xD3
  | .callNcA16 a16 => .callCc .nc a16
  | .pushDe => .push .de
  | .subD8 d8 => .aluD8 .sub d8
  | .rst10H => .rst 2
  | .retC => .retCc .c
  | .reti => .reti
  | .jpCA16 a16 => .jpCc .c a16
  | .illegalDB => .undefined .xDB
  | .callCA16 a16 => .callCc .c a16
  | .illegalDD => .undefined .xDD
  | .sbcAD8 d8 => .aluD8 .sbc d8
  | .rst18H => .rst 3
  | .ldhMemA8A a8 => .ldhMemA8A a8
  | .popHl => .pop .hl
  | .ldMemCA => .ldMemCA
  | .illegalE3 => .undefined .xE3
  | .illegalE4 => .undefined .xE4
  | .pushHl => .push .hl
  | .andD8 d8 => .aluD8 .and d8
  | .rst20H => .rst 4
  | .addSpR8 r8 => .addSpR8 r8
  | .jpMemHl => .jpMemHl
  | .ldMemA16A a16 => .ldMemA16A a16
  | .illegalEB => .undefined .xEB
  | .illegalEC => .undefined .xEC
  | .illegalED => .undefined .xED
  | .xorD8 d8 => .aluD8 .xor d8
  | .rst28H => .rst 5
  | .ldhAMemA8 a8 => .ldhAMemA8 a8
  | .popAf => .pop .af
  | .ldAMemC => .ldAMemC
  | .di => .di
  | .illegalF4 => .undefined .xF4
  | .pushAf => .push .af
  | .orD8 d8 => .aluD8 .or d8
  | .rst30H => .rst 6
  | .ldHlSpPlusR8 r8 => .ldHlSpPlusR8 r8
  | .ldSpHl => .ldSpHl
  | .ldAMemA16 a16 => .ldAMemA16 a16
  | .ei => .ei
  | .illegalFC => .undefined .xFC
  | .illegalFD => .undefined .xFD
  | .cpD8 d8 => .aluD8 .cp d8
  | .rst38H => .rst 7
  | .cbRlcB => .cbRot .rlc (.reg .b)
  | .cbRlcC => .cbRot .rlc (.reg .c)
  | .cbRlcD => .cbRot .rlc (.reg .d)
  | .cbRlcE => .cbRot .rlc (.reg .e)
  | .cbRlcH => .cbRot .rlc (.reg .h)
  | .cbRlcL => .cbRot .rlc (.reg .l)
  | .cbRlcMemHl => .cbRot .rlc .memHl
  | .cbRlcA => .cbRot .rlc (.reg .a)
  | .cbRrcB => .cbRot .rrc (.reg .b)
  | .cbRrcC => .cbRot .rrc (.reg .c)
  | .cbRrcD => .cbRot .rrc (.reg .d)
  | .cbRrcE => .cbRot .rrc (.reg .e)
  | .cbRrcH => .cbRot .rrc (.reg .h)
  | .cbRrcL => .cbRot .rrc (.reg .l)
  | .cbRrcMemHl => .cbRot .rrc .memHl
  | .cbRrcA => .cbRot .rrc (.reg .a)
  | .cbRlB => .cbRot .rl (.reg .b)
  | .cbRlC => .cbRot .rl (.reg .c)
  | .cbRlD => .cbRot .rl (.reg .d)
  | .cbRlE => .cbRot .rl (.reg .e)
  | .cbRlH => .cbRot .rl (.reg .h)
  | .cbRlL => .cbRot .rl (.reg .l)
  | .cbRlMemHl => .cbRot .rl .memHl
  | .cbRlA => .cbRot .rl (.reg .a)
  | .cbRrB => .cbRot .rr (.reg .b)
  | .cbRrC => .cbRot .rr (.reg .c)
  | .cbRrD => .cbRot .rr (.reg .d)
  | .cbRrE => .cbRot .rr (.reg .e)
  | .cbRrH => .cbRot .rr (.reg .h)
  | .cbRrL => .cbRot .rr (.reg .l)
  | .cbRrMemHl => .cbRot .rr .memHl
  | .cbRrA => .cbRot .rr (.reg .a)
  | .cbSlaB => .cbRot .sla (.reg .b)
  | .cbSlaC => .cbRot .sla (.reg .c)
  | .cbSlaD => .cbRot .sla (.reg .d)
  | .cbSlaE => .cbRot .sla (.reg .e)
  | .cbSlaH => .cbRot .sla (.reg .h)
  | .cbSlaL => .cbRot .sla (.reg .l)
  | .cbSlaMemHl => .cbRot .sla .memHl
  | .cbSlaA => .cbRot .sla (.reg .a)
  | .cbSraB => .cbRot .sra (.reg .b)
  | .cbSraC => .cbRot .sra (.reg .c)
  | .cbSraD => .cbRot .sra (.reg .d)
  | .cbSraE => .cbRot .sra (.reg .e)
  | .cbSraH => .cbRot .sra (.reg .h)
  | .cbSraL => .cbRot .sra (.reg .l)
  | .cbSraMemHl => .cbRot .sra .memHl
  | .cbSraA => .cbRot .sra (.reg .a)
  | .cbSwapB => .cbRot .swap (.reg .b)
  | .cbSwapC => .cbRot .swap (.reg .c)
  | .cbSwapD => .cbRot .swap (.reg .d)
  | .cbSwapE => .cbRot .swap (.reg .e)
  | .cbSwapH => .cbRot .swap (.reg .h)
  | .cbSwapL => .cbRot .swap (.reg .l)
  | .cbSwapMemHl => .cbRot .swap .memHl
  | .cbSwapA => .cbRot .swap (.reg .a)
  | .cbSrlB => .cbRot .srl (.reg .b)
  | .cbSrlC => .cbRot .srl (.reg .c)
  | .cbSrlD => .cbRot .srl (.reg .d)
  | .cbSrlE => .cbRot .srl (.reg .e)
  | .cbSrlH => .cbRot .srl (.reg .h)
  | .cbSrlL => .cbRot .srl (.reg .l)
  | .cbSrlMemHl => .cbRot .srl .memHl
  | .cbSrlA => .cbRot .srl (.reg .a)
  | .bit0B => .bit 0 (.reg .b)
  | .bit0C => .bit 0 (.reg .c)
  | .bit0D => .bit 0 (.reg .d)
  | .bit0E => .bit 0 (.reg .e)
  | .bit0H => .bit 0 (.reg .h)
  | .bit0L => .bit 0 (.reg .l)
  | .bit0MemHl => .bit 0 .memHl
  | .bit0A => .bit 0 (.reg .a)
  | .bit1B => .bit 1 (.reg .b)
  | .bit1C => .bit 1 (.reg .c)
  | .bit1D => .bit 1 (.reg .d)
  | .bit1E => .bit 1 (.reg .e)
  | .bit1H => .bit 1 (.reg .h)
  | .bit1L => .bit 1 (.reg .l)
  | .bit1MemHl => .bit 1 .memHl
  | .bit1A => .bit 1 (.reg .a)
  | .bit2B => .bit 2 (.reg .b)
  | .bit2C => .bit 2 (.reg .c)
  | .bit2D => .bit 2 (.reg .d)
  | .bit2E => .bit 2 (.reg .e)
  | .bit2H => .bit 2 (.reg .h)
  | .bit2L => .bit 2 (.reg .l)
  | .bit2MemHl => .bit 2 .memHl
  | .bit2A => .bit 2 (.reg .a)
  | .bit3B => .bit 3 (.reg .b)
  | .bit3C => .bit 3 (.reg .c)
  | .bit3D => .bit 3 (.reg .d)
  | .bit3E => .bit 3 (.reg .e)
  | .bit3H => .bit 3 (.reg .h)
  | .bit3L => .bit 3 (.reg .l)
  | .bit3MemHl => .bit 3 .memHl
  | .bit3A => .bit 3 (.reg .a)
  | .bit4B => .bit 4 (.reg .b)
  | .bit4C => .bit 4 (.reg .c)
  | .bit4D => .bit 4 (.reg .d)
  | .bit4E => .bit 4 (.reg .e)
  | .bit4H => .bit 4 (.reg .h)
  | .bit4L => .bit 4 (.reg .l)
  | .bit4MemHl => .bit 4 .memHl
  | .bit4A => .bit 4 (.reg .a)
  | .bit5B => .bit 5 (.reg .b)
  | .bit5C => .bit 5 (.reg .c)
  | .bit5D => .bit 5 (.reg .d)
  | .bit5E => .bit 5 (.reg .e)
  | .bit5H => .bit 5 (.reg .h)
  | .bit5L => .bit 5 (.reg .l)
  | .bit5MemHl => .bit 5 .memHl
  | .bit5A => .bit 5 (.reg .a)
  | .bit6B => .bit 6 (.reg .b)
  | .bit6C => .bit 6 (.reg .c)
  | .bit6D => .bit 6 (.reg .d)
  | .bit6E => .bit 6 (.reg .e)
  | .bit6H => .bit 6 (.reg .h)
  | .bit6L => .bit 6 (.reg .l)
  | .bit6MemHl => .bit 6 .memHl
  | .bit6A => .bit 6 (.reg .a)
  | .bit7B => .bit 7 (.reg .b)
  | .bit7C => .bit 7 (.reg .c)
  | .bit7D => .bit 7 (.reg .d)
  | .bit7E => .bit 7 (.reg .e)
  | .bit7H => .bit 7 (.reg .h)
  | .bit7L => .bit 7 (.reg .l)
  | .bit7MemHl => .bit 7 .memHl
  | .bit7A => .bit 7 (.reg .a)
  | .res0B => .res 0 (.reg .b)
  | .res0C => .res 0 (.reg .c)
  | .res0D => .res 0 (.reg .d)
  | .res0E => .res 0 (.reg .e)
  | .res0H => .res 0 (.reg .h)
  | .res0L => .res 0 (.reg .l)
  | .res0MemHl => .res 0 .memHl
  | .res0A => .res 0 (.reg .a)
  | .res1B => .res 1 (.reg .b)
  | .res1C => .res 1 (.reg .c)
  | .res1D => .res 1 (.reg .d)
  | .res1E => .res 1 (.reg .e)
  | .res1H => .res 1 (.reg .h)
  | .res1L => .res 1 (.reg .l)
  | .res1MemHl => .res 1 .memHl
  | .res1A => .res 1 (.reg .a)
  | .res2B => .res 2 (.reg .b)
  | .res2C => .res 2 (.reg .c)
  | .res2D => .res 2 (.reg .d)
  | .res2E => .res 2 (.reg .e)
  | .res2H => .res 2 (.reg .h)
  | .res2L => .res 2 (.reg .l)
  | .res2MemHl => .res 2 .memHl
  | .res2A => .res 2 (.reg .a)
  | .res3B => .res 3 (.reg .b)
  | .res3C => .res 3 (.reg .c)
  | .res3D => .res 3 (.reg .d)
  | .res3E => .res 3 (.reg .e)
  | .res3H => .res 3 (.reg .h)
  | .res3L => .res 3 (.reg .l)
  | .res3MemHl => .res 3 .memHl
  | .res3A => .res 3 (.reg .a)
  | .res4B => .res 4 (.reg .b)
  | .res4C => .res 4 (.reg .c)
  | .res4D => .res 4 (.reg .d)
  | .res4E => .res 4 (.reg .e)
  | .res4H => .res 4 (.reg .h)
  | .res4L => .res 4 (.reg .l)
  | .res4MemHl => .res 4 .memHl
  | .res4A => .res 4 (.reg .a)
  | .res5B => .res 5 (.reg .b)
  | .res5C => .res 5 (.reg .c)
  | .res5D => .res 5 (.reg .d)
  | .res5E => .res 5 (.reg .e)
  | .res5H => .res 5 (.reg .h)
  | .res5L => .res 5 (.reg .l)
  | .res5MemHl => .res 5 .memHl
  | .res5A => .res 5 (.reg .a)
  | .res6B => .res 6 (.reg .b)
  | .res6C => .res 6 (.reg .c)
  | .res6D => .res 6 (.reg .d)
  | .res6E => .res 6 (.reg .e)
  | .res6H => .res 6 (.reg .h)
  | .res6L => .res 6 (.reg .l)
  | .res6MemHl => .res 6 .memHl
  | .res6A => .res 6 (.reg .a)
  | .res7B => .res 7 (.reg .b)
  | .res7C => .res 7 (.reg .c)
  | .res7D => .res 7 (.reg .d)
  | .res7E => .res 7 (.reg .e)
  | .res7H => .res 7 (.reg .h)
  | .res7L => .res 7 (.reg .l)
  | .res7MemHl => .res 7 .memHl
  | .res7A => .res 7 (.reg .a)
  | .set0B => .set 0 (.reg .b)
  | .set0C => .set 0 (.reg .c)
  | .set0D => .set 0 (.reg .d)
  | .set0E => .set 0 (.reg .e)
  | .set0H => .set 0 (.reg .h)
  | .set0L => .set 0 (.reg .l)
  | .set0MemHl => .set 0 .memHl
  | .set0A => .set 0 (.reg .a)
  | .set1B => .set 1 (.reg .b)
  | .set1C => .set 1 (.reg .c)
  | .set1D => .set 1 (.reg .d)
  | .set1E => .set 1 (.reg .e)
  | .set1H => .set 1 (.reg .h)
  | .set1L => .set 1 (.reg .l)
  | .set1MemHl => .set 1 .memHl
  | .set1A => .set 1 (.reg .a)
  | .set2B => .set 2 (.reg .b)
  | .set2C => .set 2 (.reg .c)
  | .set2D => .set 2 (.reg .d)
  | .set2E => .set 2 (.reg .e)
  | .set2H => .set 2 (.reg .h)
  | .set2L => .set 2 (.reg .l)
  | .set2MemHl => .set 2 .memHl
  | .set2A => .set 2 (.reg .a)
  | .set3B => .set 3 (.reg .b)
  | .set3C => .set 3 (.reg .c)
  | .set3D => .set 3 (.reg .d)
  | .set3E => .set 3 (.reg .e)
  | .set3H => .set 3 (.reg .h)
  | .set3L => .set 3 (.reg .l)
  | .set3MemHl => .set 3 .memHl
  | .set3A => .set 3 (.reg .a)
  | .set4B => .set 4 (.reg .b)
  | .set4C => .set 4 (.reg .c)
  | .set4D => .set 4 (.reg .d)
  | .set4E => .set 4 (.reg .e)
  | .set4H => .set 4 (.reg .h)
  | .set4L => .set 4 (.reg .l)
  | .set4MemHl => .set 4 .memHl
  | .set4A => .set 4 (.reg .a)
  | .set5B => .set 5 (.reg .b)
  | .set5C => .set 5 (.reg .c)
  | .set5D => .set 5 (.reg .d)
  | .set5E => .set 5 (.reg .e)
  | .set5H => .set 5 (.reg .h)
  | .set5L => .set 5 (.reg .l)
  | .set5MemHl => .set 5 .memHl
  | .set5A => .set 5 (.reg .a)
  | .set6B => .set 6 (.reg .b)
  | .set6C => .set 6 (.reg .c)
  | .set6D => .set 6 (.reg .d)
  | .set6E => .set 6 (.reg .e)
  | .set6H => .set 6 (.reg .h)
  | .set6L => .set 6 (.reg .l)
  | .set6MemHl => .set 6 .memHl
  | .set6A => .set 6 (.reg .a)
  | .set7B => .set 7 (.reg .b)
  | .set7C => .set 7 (.reg .c)
  | .set7D => .set 7 (.reg .d)
  | .set7E => .set 7 (.reg .e)
  | .set7H => .set 7 (.reg .h)
  | .set7L => .set 7 (.reg .l)
  | .set7MemHl => .set 7 .memHl
  | .set7A => .set 7 (.reg .a)

end Sys2Proof
end

