-- ==== Sys2Proof/WellFormed.lean ====
section
/-! DEFINITION. Which instructions can stand complete in the instruction stream. Operands are bit vectors of the encoding's own
width, so every operand value is encodable; the one term that is no whole instruction is the bare prefix (R120: `PREFIX` is
"1 (of 2)" bytes, R131). -/

namespace Sys2Proof

/-- `i` is a whole encoding: every row of the table but the bare 0xCB, which is only the first byte of a `CB_OP` (R120, R131). -/
def Instr.wellFormed (i : Instr) : Bool :=
  match i.form with
  | .prefixCb => false
  | _ => true

end Sys2Proof
end

