-- ==== Sys2Proof/Decode.lean ====
section
/-! DEFINITION. From bytes to instructions and back (spec/30_encoding.md). `decode` reads a byte list, the first byte first, and
is total: it answers the instruction and the bytes after it, or names why there is none. The two opcode pages are the grids of
R132 and R133, one row of sixteen a line group. The encoder below is written from the same tables. -/

namespace Sys2Proof

/-! ## Byte order -/

/-- `hi ++ lo`: the word with high byte `hi` and low byte `lo` (R10). -/
def wordOf (hi lo : Byte) : Word := hi ++ lo

/-- `hi(w) = w[15:8]` (R10). -/
def hiByte (w : Word) : Byte := w.extractLsb' 8 8

/-- `lo(w) = w[7:0]` (R10). -/
def loByte (w : Word) : Byte := w.extractLsb' 0 8

/-- `sext_8`: the two's-complement value of a byte, as a 16-bit word (R11, R134). -/
def sext8 (e : Byte) : Word := e.signExtend 16

/-! ## The opcode pages -/

/-- What a first byte calls for: nothing more, one operand byte, an operand word, or a second opcode byte (R120). -/
inductive Slot where
  | op (i : Instr)
  | byte (f : Byte → Instr)
  | word (f : Word → Instr)
  | second

/-- The main page (R132), first bytes 0x00 to 0x0F. -/
def mainRow0 : List Slot :=
  [.op .nop, .word .ldBcD16, .op .ldMemBcA, .op .incBc, .op .incB, .op .decB, .byte .ldBD8, .op .rlca,
   .word .ldMemA16Sp, .op .addHlBc, .op .ldAMemBc, .op .decBc, .op .incC, .op .decC, .byte .ldCD8, .op .rrca]
/-- The main page (R132), first bytes 0x10 to 0x1F. -/
def mainRow1 : List Slot :=
  [.byte .stop, .word .ldDeD16, .op .ldMemDeA, .op .incDe, .op .incD, .op .decD, .byte .ldDD8, .op .rla,
   .byte .jrR8, .op .addHlDe, .op .ldAMemDe, .op .decDe, .op .incE, .op .decE, .byte .ldED8, .op .rra]
/-- The main page (R132), first bytes 0x20 to 0x2F. -/
def mainRow2 : List Slot :=
  [.byte .jrNzR8, .word .ldHlD16, .op .ldMemHlIncA, .op .incHl, .op .incH, .op .decH, .byte .ldHD8, .op .daa,
   .byte .jrZR8, .op .addHlHl, .op .ldAMemHlInc, .op .decHl, .op .incL, .op .decL, .byte .ldLD8, .op .cpl]
/-- The main page (R132), first bytes 0x30 to 0x3F. -/
def mainRow3 : List Slot :=
  [.byte .jrNcR8, .word .ldSpD16, .op .ldMemHlDecA, .op .incSp, .op .incMemHl, .op .decMemHl, .byte .ldMemHlD8, .op .scf,
   .byte .jrCR8, .op .addHlSp, .op .ldAMemHlDec, .op .decSp, .op .incA, .op .decA, .byte .ldAD8, .op .ccf]
/-- The main page (R132), first bytes 0x40 to 0x4F. -/
def mainRow4 : List Slot :=
  [.op .ldBB, .op .ldBC, .op .ldBD, .op .ldBE, .op .ldBH, .op .ldBL, .op .ldBMemHl, .op .ldBA,
   .op .ldCB, .op .ldCC, .op .ldCD, .op .ldCE, .op .ldCH, .op .ldCL, .op .ldCMemHl, .op .ldCA]
/-- The main page (R132), first bytes 0x50 to 0x5F. -/
def mainRow5 : List Slot :=
  [.op .ldDB, .op .ldDC, .op .ldDD, .op .ldDE, .op .ldDH, .op .ldDL, .op .ldDMemHl, .op .ldDA,
   .op .ldEB, .op .ldEC, .op .ldED, .op .ldEE, .op .ldEH, .op .ldEL, .op .ldEMemHl, .op .ldEA]
/-- The main page (R132), first bytes 0x60 to 0x6F. -/
def mainRow6 : List Slot :=
  [.op .ldHB, .op .ldHC, .op .ldHD, .op .ldHE, .op .ldHH, .op .ldHL, .op .ldHMemHl, .op .ldHA,
   .op .ldLB, .op .ldLC, .op .ldLD, .op .ldLE, .op .ldLH, .op .ldLL, .op .ldLMemHl, .op .ldLA]
/-- The main page (R132), first bytes 0x70 to 0x7F. -/
def mainRow7 : List Slot :=
  [.op .ldMemHlB, .op .ldMemHlC, .op .ldMemHlD, .op .ldMemHlE, .op .ldMemHlH, .op .ldMemHlL, .op .halt, .op .ldMemHlA,
   .op .ldAB, .op .ldAC, .op .ldAD, .op .ldAE, .op .ldAH, .op .ldAL, .op .ldAMemHl, .op .ldAA]
/-- The main page (R132), first bytes 0x80 to 0x8F. -/
def mainRow8 : List Slot :=
  [.op .addAB, .op .addAC, .op .addAD, .op .addAE, .op .addAH, .op .addAL, .op .addAMemHl, .op .addAA,
   .op .adcAB, .op .adcAC, .op .adcAD, .op .adcAE, .op .adcAH, .op .adcAL, .op .adcAMemHl, .op .adcAA]
/-- The main page (R132), first bytes 0x90 to 0x9F. -/
def mainRow9 : List Slot :=
  [.op .subB, .op .subC, .op .subD, .op .subE, .op .subH, .op .subL, .op .subMemHl, .op .subA,
   .op .sbcAB, .op .sbcAC, .op .sbcAD, .op .sbcAE, .op .sbcAH, .op .sbcAL, .op .sbcAMemHl, .op .sbcAA]
/-- The main page (R132), first bytes 0xA0 to 0xAF. -/
def mainRowA : List Slot :=
  [.op .andB, .op .andC, .op .andD, .op .andE, .op .andH, .op .andL, .op .andMemHl, .op .andA,
   .op .xorB, .op .xorC, .op .xorD, .op .xorE, .op .xorH, .op .xorL, .op .xorMemHl, .op .xorA]
/-- The main page (R132), first bytes 0xB0 to 0xBF. -/
def mainRowB : List Slot :=
  [.op .orB, .op .orC, .op .orD, .op .orE, .op .orH, .op .orL, .op .orMemHl, .op .orA,
   .op .cpB, .op .cpC, .op .cpD, .op .cpE, .op .cpH, .op .cpL, .op .cpMemHl, .op .cpA]
/-- The main page (R132), first bytes 0xC0 to 0xCF. -/
def mainRowC : List Slot :=
  [.op .retNz, .op .popBc, .word .jpNzA16, .word .jpA16, .word .callNzA16, .op .pushBc, .byte .addAD8, .op .rst00H,
   .op .retZ, .op .ret, .word .jpZA16, .second, .word .callZA16, .word .callA16, .byte .adcAD8, .op .rst08H]
/-- The main page (R132), first bytes 0xD0 to 0xDF. -/
def mainRowD : List Slot :=
  [.op .retNc, .op .popDe, .word .jpNcA16, .op .illegalD3, .word .callNcA16, .op .pushDe, .byte .subD8, .op .rst10H,
   .op .retC, .op .reti, .word .jpCA16, .op .illegalDB, .word .callCA16, .op .illegalDD, .byte .sbcAD8, .op .rst18H]
/-- The main page (R132), first bytes 0xE0 to 0xEF. -/
def mainRowE : List Slot :=
  [.byte .ldhMemA8A, .op .popHl, .op .ldMemCA, .op .illegalE3, .op .illegalE4, .op .pushHl, .byte .andD8, .op .rst20H,
   .byte .addSpR8, .op .jpMemHl, .word .ldMemA16A, .op .illegalEB, .op .illegalEC, .op .illegalED, .byte .xorD8, .op .rst28H]
/-- The main page (R132), first bytes 0xF0 to 0xFF. -/
def mainRowF : List Slot :=
  [.byte .ldhAMemA8, .op .popAf, .op .ldAMemC, .op .di, .op .illegalF4, .op .pushAf, .byte .orD8, .op .rst30H,
   .byte .ldHlSpPlusR8, .op .ldSpHl, .word .ldAMemA16, .op .ei, .op .illegalFC, .op .illegalFD, .byte .cpD8, .op .rst38H]
/-- The main page: the slot of every first byte (R132). -/
def mainPage : List Slot :=
  mainRow0 ++ mainRow1 ++ mainRow2 ++ mainRow3 ++ mainRow4 ++ mainRow5 ++ mainRow6 ++ mainRow7 ++
  mainRow8 ++ mainRow9 ++ mainRowA ++ mainRowB ++ mainRowC ++ mainRowD ++ mainRowE ++ mainRowF

/-- The CB page (R133), second bytes 0x00 to 0x0F. -/
def cbRow0 : List Instr :=
  [.cbRlcB, .cbRlcC, .cbRlcD, .cbRlcE, .cbRlcH, .cbRlcL, .cbRlcMemHl, .cbRlcA,
   .cbRrcB, .cbRrcC, .cbRrcD, .cbRrcE, .cbRrcH, .cbRrcL, .cbRrcMemHl, .cbRrcA]
/-- The CB page (R133), second bytes 0x10 to 0x1F. -/
def cbRow1 : List Instr :=
  [.cbRlB, .cbRlC, .cbRlD, .cbRlE, .cbRlH, .cbRlL, .cbRlMemHl, .cbRlA,
   .cbRrB, .cbRrC, .cbRrD, .cbRrE, .cbRrH, .cbRrL, .cbRrMemHl, .cbRrA]
/-- The CB page (R133), second bytes 0x20 to 0x2F. -/
def cbRow2 : List Instr :=
  [.cbSlaB, .cbSlaC, .cbSlaD, .cbSlaE, .cbSlaH, .cbSlaL, .cbSlaMemHl, .cbSlaA,
   .cbSraB, .cbSraC, .cbSraD, .cbSraE, .cbSraH, .cbSraL, .cbSraMemHl, .cbSraA]
/-- The CB page (R133), second bytes 0x30 to 0x3F. -/
def cbRow3 : List Instr :=
  [.cbSwapB, .cbSwapC, .cbSwapD, .cbSwapE, .cbSwapH, .cbSwapL, .cbSwapMemHl, .cbSwapA,
   .cbSrlB, .cbSrlC, .cbSrlD, .cbSrlE, .cbSrlH, .cbSrlL, .cbSrlMemHl, .cbSrlA]
/-- The CB page (R133), second bytes 0x40 to 0x4F. -/
def cbRow4 : List Instr :=
  [.bit0B, .bit0C, .bit0D, .bit0E, .bit0H, .bit0L, .bit0MemHl, .bit0A,
   .bit1B, .bit1C, .bit1D, .bit1E, .bit1H, .bit1L, .bit1MemHl, .bit1A]
/-- The CB page (R133), second bytes 0x50 to 0x5F. -/
def cbRow5 : List Instr :=
  [.bit2B, .bit2C, .bit2D, .bit2E, .bit2H, .bit2L, .bit2MemHl, .bit2A,
   .bit3B, .bit3C, .bit3D, .bit3E, .bit3H, .bit3L, .bit3MemHl, .bit3A]
/-- The CB page (R133), second bytes 0x60 to 0x6F. -/
def cbRow6 : List Instr :=
  [.bit4B, .bit4C, .bit4D, .bit4E, .bit4H, .bit4L, .bit4MemHl, .bit4A,
   .bit5B, .bit5C, .bit5D, .bit5E, .bit5H, .bit5L, .bit5MemHl, .bit5A]
/-- The CB page (R133), second bytes 0x70 to 0x7F. -/
def cbRow7 : List Instr :=
  [.bit6B, .bit6C, .bit6D, .bit6E, .bit6H, .bit6L, .bit6MemHl, .bit6A,
   .bit7B, .bit7C, .bit7D, .bit7E, .bit7H, .bit7L, .bit7MemHl, .bit7A]
/-- The CB page (R133), second bytes 0x80 to 0x8F. -/
def cbRow8 : List Instr :=
  [.res0B, .res0C, .res0D, .res0E, .res0H, .res0L, .res0MemHl, .res0A,
   .res1B, .res1C, .res1D, .res1E, .res1H, .res1L, .res1MemHl, .res1A]
/-- The CB page (R133), second bytes 0x90 to 0x9F. -/
def cbRow9 : List Instr :=
  [.res2B, .res2C, .res2D, .res2E, .res2H, .res2L, .res2MemHl, .res2A,
   .res3B, .res3C, .res3D, .res3E, .res3H, .res3L, .res3MemHl, .res3A]
/-- The CB page (R133), second bytes 0xA0 to 0xAF. -/
def cbRowA : List Instr :=
  [.res4B, .res4C, .res4D, .res4E, .res4H, .res4L, .res4MemHl, .res4A,
   .res5B, .res5C, .res5D, .res5E, .res5H, .res5L, .res5MemHl, .res5A]
/-- The CB page (R133), second bytes 0xB0 to 0xBF. -/
def cbRowB : List Instr :=
  [.res6B, .res6C, .res6D, .res6E, .res6H, .res6L, .res6MemHl, .res6A,
   .res7B, .res7C, .res7D, .res7E, .res7H, .res7L, .res7MemHl, .res7A]
/-- The CB page (R133), second bytes 0xC0 to 0xCF. -/
def cbRowC : List Instr :=
  [.set0B, .set0C, .set0D, .set0E, .set0H, .set0L, .set0MemHl, .set0A,
   .set1B, .set1C, .set1D, .set1E, .set1H, .set1L, .set1MemHl, .set1A]
/-- The CB page (R133), second bytes 0xD0 to 0xDF. -/
def cbRowD : List Instr :=
  [.set2B, .set2C, .set2D, .set2E, .set2H, .set2L, .set2MemHl, .set2A,
   .set3B, .set3C, .set3D, .set3E, .set3H, .set3L, .set3MemHl, .set3A]
/-- The CB page (R133), second bytes 0xE0 to 0xEF. -/
def cbRowE : List Instr :=
  [.set4B, .set4C, .set4D, .set4E, .set4H, .set4L, .set4MemHl, .set4A,
   .set5B, .set5C, .set5D, .set5E, .set5H, .set5L, .set5MemHl, .set5A]
/-- The CB page (R133), second bytes 0xF0 to 0xFF. -/
def cbRowF : List Instr :=
  [.set6B, .set6C, .set6D, .set6E, .set6H, .set6L, .set6MemHl, .set6A,
   .set7B, .set7C, .set7D, .set7E, .set7H, .set7L, .set7MemHl, .set7A]
/-- The CB page: the instruction of every second byte (R133). -/
def cbPage : List Instr :=
  cbRow0 ++ cbRow1 ++ cbRow2 ++ cbRow3 ++ cbRow4 ++ cbRow5 ++ cbRow6 ++ cbRow7 ++
  cbRow8 ++ cbRow9 ++ cbRowA ++ cbRowB ++ cbRowC ++ cbRowD ++ cbRowE ++ cbRowF

theorem mainPage_length : mainPage.length = 256 := by
  simp only [mainPage, List.length_append]; rfl

theorem cbPage_length : cbPage.length = 256 := by
  simp only [cbPage, List.length_append]; rfl

/-- The slot of a first byte: a direct map (R135). -/
def slotOf (b : Byte) : Slot := mainPage[b.toNat]'(by rw [mainPage_length]; exact b.isLt)

/-- The instruction of a second byte after 0xCB (R133, R135). -/
def cbInstr (b : Byte) : Instr := cbPage[b.toNat]'(by rw [cbPage_length]; exact b.isLt)

/-! ## The decoder -/

/-- Why a byte list holds no instruction at its front. -/
inductive DecodeError where
  /-- There is no first byte. -/
  | noBytes
  /-- The operand bytes that the first byte calls for are not all there. -/
  | truncated (opcode : Byte)
deriving DecidableEq, Repr

/-- Decode the instruction at the front of a byte list (R120, R131, R134). Undefined first bytes decode to their rows of the
table, by name (R355). 0xCB with nothing after it is the prefix row alone (log 11). -/
def decode : List Byte → Except DecodeError (Instr × List Byte)
  | [] => .error .noBytes
  | b :: rest =>
    match slotOf b with
    | .op i => .ok (i, rest)
    | .byte f =>
      match rest with
      | n :: rest => .ok (f n, rest)
      | [] => .error (.truncated b)
    | .word f =>
      match rest with
      | lo :: hi :: rest => .ok (f (wordOf hi lo), rest)
      | _ => .error (.truncated b)
    | .second =>
      match rest with
      | b2 :: rest => .ok (cbInstr b2, rest)
      | [] => .ok (.prefixCb, [])

/-! ## The encoder -/

/-- An opcode followed by a word operand, low byte first (R122). -/
def encWord (op : Byte) (w : Word) : List Byte := [op, loByte w, hiByte w]

/-- The bytes of an instruction (the tables of R132 and R133, the formats of R120). -/
def encode : Instr → List Byte
  | .nop => [0x00]
  | .ldBcD16 d16 => encWord 0x01 d16
  | .ldMemBcA => [0x02]
  | .incBc => [0x03]
  | .incB => [0x04]
  | .decB => [0x05]
  | .ldBD8 d8 => [0x06, d8]
  | .rlca => [0x07]
  | .ldMemA16Sp a16 => encWord 0x08 a16
  | .addHlBc => [0x09]
  | .ldAMemBc => [0x0A]
  | .decBc => [0x0B]
  | .incC => [0x0C]
  | .decC => [0x0D]
  | .ldCD8 d8 => [0x0E, d8]
  | .rrca => [0x0F]
  | .stop pad => [0x10, pad]
  | .ldDeD16 d16 => encWord 0x11 d16
  | .ldMemDeA => [0x12]
  | .incDe => [0x13]
  | .incD => [0x14]
  | .decD => [0x15]
  | .ldDD8 d8 => [0x16, d8]
  | .rla => [0x17]
  | .jrR8 r8 => [0x18, r8]
  | .addHlDe => [0x19]
  | .ldAMemDe => [0x1A]
  | .decDe => [0x1B]
  | .incE => [0x1C]
  | .decE => [0x1D]
  | .ldED8 d8 => [0x1E, d8]
  | .rra => [0x1F]
  | .jrNzR8 r8 => [0x20, r8]
  | .ldHlD16 d16 => encWord 0x21 d16
  | .ldMemHlIncA => [0x22]
  | .incHl => [0x23]
  | .incH => [0x24]
  | .decH => [0x25]
  | .ldHD8 d8 => [0x26, d8]
  | .daa => [0x27]
  | .jrZR8 r8 => [0x28, r8]
  | .addHlHl => [0x29]
  | .ldAMemHlInc => [0x2A]
  | .decHl => [0x2B]
  | .incL => [0x2C]
  | .decL => [0x2D]
  | .ldLD8 d8 => [0x2E, d8]
  | .cpl => [0x2F]
  | .jrNcR8 r8 => [0x30, r8]
  | .ldSpD16 d16 => encWord 0x31 d16
  | .ldMemHlDecA => [0x32]
  | .incSp => [0x33]
  | .incMemHl => [0x34]
  | .decMemHl => [0x35]
  | .ldMemHlD8 d8 => [0x36, d8]
  | .scf => [0x37]
  | .jrCR8 r8 => [0x38, r8]
  | .addHlSp => [0x39]
  | .ldAMemHlDec => [0x3A]
  | .decSp => [0x3B]
  | .incA => [0x3C]
  | .decA => [0x3D]
  | .ldAD8 d8 => [0x3E, d8]
  | .ccf => [0x3F]
  | .ldBB => [0x40]
  | .ldBC => [0x41]
  | .ldBD => [0x42]
  | .ldBE => [0x43]
  | .ldBH => [0x44]
  | .ldBL => [0x45]
  | .ldBMemHl => [0x46]
  | .ldBA => [0x47]
  | .ldCB => [0x48]
  | .ldCC => [0x49]
  | .ldCD => [0x4A]
  | .ldCE => [0x4B]
  | .ldCH => [0x4C]
  | .ldCL => [0x4D]
  | .ldCMemHl => [0x4E]
  | .ldCA => [0x4F]
  | .ldDB => [0x50]
  | .ldDC => [0x51]
  | .ldDD => [0x52]
  | .ldDE => [0x53]
  | .ldDH => [0x54]
  | .ldDL => [0x55]
  | .ldDMemHl => [0x56]
  | .ldDA => [0x57]
  | .ldEB => [0x58]
  | .ldEC => [0x59]
  | .ldED => [0x5A]
  | .ldEE => [0x5B]
  | .ldEH => [0x5C]
  | .ldEL => [0x5D]
  | .ldEMemHl => [0x5E]
  | .ldEA => [0x5F]
  | .ldHB => [0x60]
  | .ldHC => [0x61]
  | .ldHD => [0x62]
  | .ldHE => [0x63]
  | .ldHH => [0x64]
  | .ldHL => [0x65]
  | .ldHMemHl => [0x66]
  | .ldHA => [0x67]
  | .ldLB => [0x68]
  | .ldLC => [0x69]
  | .ldLD => [0x6A]
  | .ldLE => [0x6B]
  | .ldLH => [0x6C]
  | .ldLL => [0x6D]
  | .ldLMemHl => [0x6E]
  | .ldLA => [0x6F]
  | .ldMemHlB => [0x70]
  | .ldMemHlC => [0x71]
  | .ldMemHlD => [0x72]
  | .ldMemHlE => [0x73]
  | .ldMemHlH => [0x74]
  | .ldMemHlL => [0x75]
  | .halt => [0x76]
  | .ldMemHlA => [0x77]
  | .ldAB => [0x78]
  | .ldAC => [0x79]
  | .ldAD => [0x7A]
  | .ldAE => [0x7B]
  | .ldAH => [0x7C]
  | .ldAL => [0x7D]
  | .ldAMemHl => [0x7E]
  | .ldAA => [0x7F]
  | .addAB => [0x80]
  | .addAC => [0x81]
  | .addAD => [0x82]
  | .addAE => [0x83]
  | .addAH => [0x84]
  | .addAL => [0x85]
  | .addAMemHl => [0x86]
  | .addAA => [0x87]
  | .adcAB => [0x88]
  | .adcAC => [0x89]
  | .adcAD => [0x8A]
  | .adcAE => [0x8B]
  | .adcAH => [0x8C]
  | .adcAL => [0x8D]
  | .adcAMemHl => [0x8E]
  | .adcAA => [0x8F]
  | .subB => [0x90]
  | .subC => [0x91]
  | .subD => [0x92]
  | .subE => [0x93]
  | .subH => [0x94]
  | .subL => [0x95]
  | .subMemHl => [0x96]
  | .subA => [0x97]
  | .sbcAB => [0x98]
  | .sbcAC => [0x99]
  | .sbcAD => [0x9A]
  | .sbcAE => [0x9B]
  | .sbcAH => [0x9C]
  | .sbcAL => [0x9D]
  | .sbcAMemHl => [0x9E]
  | .sbcAA => [0x9F]
  | .andB => [0xA0]
  | .andC => [0xA1]
  | .andD => [0xA2]
  | .andE => [0xA3]
  | .andH => [0xA4]
  | .andL => [0xA5]
  | .andMemHl => [0xA6]
  | .andA => [0xA7]
  | .xorB => [0xA8]
  | .xorC => [0xA9]
  | .xorD => [0xAA]
  | .xorE => [0xAB]
  | .xorH => [0xAC]
  | .xorL => [0xAD]
  | .xorMemHl => [0xAE]
  | .xorA => [0xAF]
  | .orB => [0xB0]
  | .orC => [0xB1]
  | .orD => [0xB2]
  | .orE => [0xB3]
  | .orH => [0xB4]
  | .orL => [0xB5]
  | .orMemHl => [0xB6]
  | .orA => [0xB7]
  | .cpB => [0xB8]
  | .cpC => [0xB9]
  | .cpD => [0xBA]
  | .cpE => [0xBB]
  | .cpH => [0xBC]
  | .cpL => [0xBD]
  | .cpMemHl => [0xBE]
  | .cpA => [0xBF]
  | .retNz => [0xC0]
  | .popBc => [0xC1]
  | .jpNzA16 a16 => encWord 0xC2 a16
  | .jpA16 a16 => encWord 0xC3 a16
  | .callNzA16 a16 => encWord 0xC4 a16
  | .pushBc => [0xC5]
  | .addAD8 d8 => [0xC6, d8]
  | .rst00H => [0xC7]
  | .retZ => [0xC8]
  | .ret => [0xC9]
  | .jpZA16 a16 => encWord 0xCA a16
  | .prefixCb => [0xCB]
  | .callZA16 a16 => encWord 0xCC a16
  | .callA16 a16 => encWord 0xCD a16
  | .adcAD8 d8 => [0xCE, d8]
  | .rst08H => [0xCF]
  | .retNc => [0xD0]
  | .popDe => [0xD1]
  | .jpNcA16 a16 => encWord 0xD2 a16
  | .illegalD3 => [0xD3]
  | .callNcA16 a16 => encWord 0xD4 a16
  | .pushDe => [0xD5]
  | .subD8 d8 => [0xD6, d8]
  | .rst10H => [0xD7]
  | .retC => [0xD8]
  | .reti => [0xD9]
  | .jpCA16 a16 => encWord 0xDA a16
  | .illegalDB => [0xDB]
  | .callCA16 a16 => encWord 0xDC a16
  | .illegalDD => [0xDD]
  | .sbcAD8 d8 => [0xDE, d8]
  | .rst18H => [0xDF]
  | .ldhMemA8A a8 => [0xE0, a8]
  | .popHl => [0xE1]
  | .ldMemCA => [0xE2]
  | .illegalE3 => [0xE3]
  | .illegalE4 => [0xE4]
  | .pushHl => [0xE5]
  | .andD8 d8 => [0xE6, d8]
  | .rst20H => [0xE7]
  | .addSpR8 r8 => [0xE8, r8]
  | .jpMemHl => [0xE9]
  | .ldMemA16A a16 => encWord 0xEA a16
  | .illegalEB => [0xEB]
  | .illegalEC => [0xEC]
  | .illegalED => [0xED]
  | .xorD8 d8 => [0xEE, d8]
  | .rst28H => [0xEF]
  | .ldhAMemA8 a8 => [0xF0, a8]
  | .popAf => [0xF1]
  | .ldAMemC => [0xF2]
  | .di => [0xF3]
  | .illegalF4 => [0xF4]
  | .pushAf => [0xF5]
  | .orD8 d8 => [0xF6, d8]
  | .rst30H => [0xF7]
  | .ldHlSpPlusR8 r8 => [0xF8, r8]
  | .ldSpHl => [0xF9]
  | .ldAMemA16 a16 => encWord 0xFA a16
  | .ei => [0xFB]
  | .illegalFC => [0xFC]
  | .illegalFD => [0xFD]
  | .cpD8 d8 => [0xFE, d8]
  | .rst38H => [0xFF]
  | .cbRlcB => [0xCB, 0x00]
  | .cbRlcC => [0xCB, 0x01]
  | .cbRlcD => [0xCB, 0x02]
  | .cbRlcE => [0xCB, 0x03]
  | .cbRlcH => [0xCB, 0x04]
  | .cbRlcL => [0xCB, 0x05]
  | .cbRlcMemHl => [0xCB, 0x06]
  | .cbRlcA => [0xCB, 0x07]
  | .cbRrcB => [0xCB, 0x08]
  | .cbRrcC => [0xCB, 0x09]
  | .cbRrcD => [0xCB, 0x0A]
  | .cbRrcE => [0xCB, 0x0B]
  | .cbRrcH => [0xCB, 0x0C]
  | .cbRrcL => [0xCB, 0x0D]
  | .cbRrcMemHl => [0xCB, 0x0E]
  | .cbRrcA => [0xCB, 0x0F]
  | .cbRlB => [0xCB, 0x10]
  | .cbRlC => [0xCB, 0x11]
  | .cbRlD => [0xCB, 0x12]
  | .cbRlE => [0xCB, 0x13]
  | .cbRlH => [0xCB, 0x14]
  | .cbRlL => [0xCB, 0x15]
  | .cbRlMemHl => [0xCB, 0x16]
  | .cbRlA => [0xCB, 0x17]
  | .cbRrB => [0xCB, 0x18]
  | .cbRrC => [0xCB, 0x19]
  | .cbRrD => [0xCB, 0x1A]
  | .cbRrE => [0xCB, 0x1B]
  | .cbRrH => [0xCB, 0x1C]
  | .cbRrL => [0xCB, 0x1D]
  | .cbRrMemHl => [0xCB, 0x1E]
  | .cbRrA => [0xCB, 0x1F]
  | .cbSlaB => [0xCB, 0x20]
  | .cbSlaC => [0xCB, 0x21]
  | .cbSlaD => [0xCB, 0x22]
  | .cbSlaE => [0xCB, 0x23]
  | .cbSlaH => [0xCB, 0x24]
  | .cbSlaL => [0xCB, 0x25]
  | .cbSlaMemHl => [0xCB, 0x26]
  | .cbSlaA => [0xCB, 0x27]
  | .cbSraB => [0xCB, 0x28]
  | .cbSraC => [0xCB, 0x29]
  | .cbSraD => [0xCB, 0x2A]
  | .cbSraE => [0xCB, 0x2B]
  | .cbSraH => [0xCB, 0x2C]
  | .cbSraL => [0xCB, 0x2D]
  | .cbSraMemHl => [0xCB, 0x2E]
  | .cbSraA => [0xCB, 0x2F]
  | .cbSwapB => [0xCB, 0x30]
  | .cbSwapC => [0xCB, 0x31]
  | .cbSwapD => [0xCB, 0x32]
  | .cbSwapE => [0xCB, 0x33]
  | .cbSwapH => [0xCB, 0x34]
  | .cbSwapL => [0xCB, 0x35]
  | .cbSwapMemHl => [0xCB, 0x36]
  | .cbSwapA => [0xCB, 0x37]
  | .cbSrlB => [0xCB, 0x38]
  | .cbSrlC => [0xCB, 0x39]
  | .cbSrlD => [0xCB, 0x3A]
  | .cbSrlE => [0xCB, 0x3B]
  | .cbSrlH => [0xCB, 0x3C]
  | .cbSrlL => [0xCB, 0x3D]
  | .cbSrlMemHl => [0xCB, 0x3E]
  | .cbSrlA => [0xCB, 0x3F]
  | .bit0B => [0xCB, 0x40]
  | .bit0C => [0xCB, 0x41]
  | .bit0D => [0xCB, 0x42]
  | .bit0E => [0xCB, 0x43]
  | .bit0H => [0xCB, 0x44]
  | .bit0L => [0xCB, 0x45]
  | .bit0MemHl => [0xCB, 0x46]
  | .bit0A => [0xCB, 0x47]
  | .bit1B => [0xCB, 0x48]
  | .bit1C => [0xCB, 0x49]
  | .bit1D => [0xCB, 0x4A]
  | .bit1E => [0xCB, 0x4B]
  | .bit1H => [0xCB, 0x4C]
  | .bit1L => [0xCB, 0x4D]
  | .bit1MemHl => [0xCB, 0x4E]
  | .bit1A => [0xCB, 0x4F]
  | .bit2B => [0xCB, 0x50]
  | .bit2C => [0xCB, 0x51]
  | .bit2D => [0xCB, 0x52]
  | .bit2E => [0xCB, 0x53]
  | .bit2H => [0xCB, 0x54]
  | .bit2L => [0xCB, 0x55]
  | .bit2MemHl => [0xCB, 0x56]
  | .bit2A => [0xCB, 0x57]
  | .bit3B => [0xCB, 0x58]
  | .bit3C => [0xCB, 0x59]
  | .bit3D => [0xCB, 0x5A]
  | .bit3E => [0xCB, 0x5B]
  | .bit3H => [0xCB, 0x5C]
  | .bit3L => [0xCB, 0x5D]
  | .bit3MemHl => [0xCB, 0x5E]
  | .bit3A => [0xCB, 0x5F]
  | .bit4B => [0xCB, 0x60]
  | .bit4C => [0xCB, 0x61]
  | .bit4D => [0xCB, 0x62]
  | .bit4E => [0xCB, 0x63]
  | .bit4H => [0xCB, 0x64]
  | .bit4L => [0xCB, 0x65]
  | .bit4MemHl => [0xCB, 0x66]
  | .bit4A => [0xCB, 0x67]
  | .bit5B => [0xCB, 0x68]
  | .bit5C => [0xCB, 0x69]
  | .bit5D => [0xCB, 0x6A]
  | .bit5E => [0xCB, 0x6B]
  | .bit5H => [0xCB, 0x6C]
  | .bit5L => [0xCB, 0x6D]
  | .bit5MemHl => [0xCB, 0x6E]
  | .bit5A => [0xCB, 0x6F]
  | .bit6B => [0xCB, 0x70]
  | .bit6C => [0xCB, 0x71]
  | .bit6D => [0xCB, 0x72]
  | .bit6E => [0xCB, 0x73]
  | .bit6H => [0xCB, 0x74]
  | .bit6L => [0xCB, 0x75]
  | .bit6MemHl => [0xCB, 0x76]
  | .bit6A => [0xCB, 0x77]
  | .bit7B => [0xCB, 0x78]
  | .bit7C => [0xCB, 0x79]
  | .bit7D => [0xCB, 0x7A]
  | .bit7E => [0xCB, 0x7B]
  | .bit7H => [0xCB, 0x7C]
  | .bit7L => [0xCB, 0x7D]
  | .bit7MemHl => [0xCB, 0x7E]
  | .bit7A => [0xCB, 0x7F]
  | .res0B => [0xCB, 0x80]
  | .res0C => [0xCB, 0x81]
  | .res0D => [0xCB, 0x82]
  | .res0E => [0xCB, 0x83]
  | .res0H => [0xCB, 0x84]
  | .res0L => [0xCB, 0x85]
  | .res0MemHl => [0xCB, 0x86]
  | .res0A => [0xCB, 0x87]
  | .res1B => [0xCB, 0x88]
  | .res1C => [0xCB, 0x89]
  | .res1D => [0xCB, 0x8A]
  | .res1E => [0xCB, 0x8B]
  | .res1H => [0xCB, 0x8C]
  | .res1L => [0xCB, 0x8D]
  | .res1MemHl => [0xCB, 0x8E]
  | .res1A => [0xCB, 0x8F]
  | .res2B => [0xCB, 0x90]
  | .res2C => [0xCB, 0x91]
  | .res2D => [0xCB, 0x92]
  | .res2E => [0xCB, 0x93]
  | .res2H => [0xCB, 0x94]
  | .res2L => [0xCB, 0x95]
  | .res2MemHl => [0xCB, 0x96]
  | .res2A => [0xCB, 0x97]
  | .res3B => [0xCB, 0x98]
  | .res3C => [0xCB, 0x99]
  | .res3D => [0xCB, 0x9A]
  | .res3E => [0xCB, 0x9B]
  | .res3H => [0xCB, 0x9C]
  | .res3L => [0xCB, 0x9D]
  | .res3MemHl => [0xCB, 0x9E]
  | .res3A => [0xCB, 0x9F]
  | .res4B => [0xCB, 0xA0]
  | .res4C => [0xCB, 0xA1]
  | .res4D => [0xCB, 0xA2]
  | .res4E => [0xCB, 0xA3]
  | .res4H => [0xCB, 0xA4]
  | .res4L => [0xCB, 0xA5]
  | .res4MemHl => [0xCB, 0xA6]
  | .res4A => [0xCB, 0xA7]
  | .res5B => [0xCB, 0xA8]
  | .res5C => [0xCB, 0xA9]
  | .res5D => [0xCB, 0xAA]
  | .res5E => [0xCB, 0xAB]
  | .res5H => [0xCB, 0xAC]
  | .res5L => [0xCB, 0xAD]
  | .res5MemHl => [0xCB, 0xAE]
  | .res5A => [0xCB, 0xAF]
  | .res6B => [0xCB, 0xB0]
  | .res6C => [0xCB, 0xB1]
  | .res6D => [0xCB, 0xB2]
  | .res6E => [0xCB, 0xB3]
  | .res6H => [0xCB, 0xB4]
  | .res6L => [0xCB, 0xB5]
  | .res6MemHl => [0xCB, 0xB6]
  | .res6A => [0xCB, 0xB7]
  | .res7B => [0xCB, 0xB8]
  | .res7C => [0xCB, 0xB9]
  | .res7D => [0xCB, 0xBA]
  | .res7E => [0xCB, 0xBB]
  | .res7H => [0xCB, 0xBC]
  | .res7L => [0xCB, 0xBD]
  | .res7MemHl => [0xCB, 0xBE]
  | .res7A => [0xCB, 0xBF]
  | .set0B => [0xCB, 0xC0]
  | .set0C => [0xCB, 0xC1]
  | .set0D => [0xCB, 0xC2]
  | .set0E => [0xCB, 0xC3]
  | .set0H => [0xCB, 0xC4]
  | .set0L => [0xCB, 0xC5]
  | .set0MemHl => [0xCB, 0xC6]
  | .set0A => [0xCB, 0xC7]
  | .set1B => [0xCB, 0xC8]
  | .set1C => [0xCB, 0xC9]
  | .set1D => [0xCB, 0xCA]
  | .set1E => [0xCB, 0xCB]
  | .set1H => [0xCB, 0xCC]
  | .set1L => [0xCB, 0xCD]
  | .set1MemHl => [0xCB, 0xCE]
  | .set1A => [0xCB, 0xCF]
  | .set2B => [0xCB, 0xD0]
  | .set2C => [0xCB, 0xD1]
  | .set2D => [0xCB, 0xD2]
  | .set2E => [0xCB, 0xD3]
  | .set2H => [0xCB, 0xD4]
  | .set2L => [0xCB, 0xD5]
  | .set2MemHl => [0xCB, 0xD6]
  | .set2A => [0xCB, 0xD7]
  | .set3B => [0xCB, 0xD8]
  | .set3C => [0xCB, 0xD9]
  | .set3D => [0xCB, 0xDA]
  | .set3E => [0xCB, 0xDB]
  | .set3H => [0xCB, 0xDC]
  | .set3L => [0xCB, 0xDD]
  | .set3MemHl => [0xCB, 0xDE]
  | .set3A => [0xCB, 0xDF]
  | .set4B => [0xCB, 0xE0]
  | .set4C => [0xCB, 0xE1]
  | .set4D => [0xCB, 0xE2]
  | .set4E => [0xCB, 0xE3]
  | .set4H => [0xCB, 0xE4]
  | .set4L => [0xCB, 0xE5]
  | .set4MemHl => [0xCB, 0xE6]
  | .set4A => [0xCB, 0xE7]
  | .set5B => [0xCB, 0xE8]
  | .set5C => [0xCB, 0xE9]
  | .set5D => [0xCB, 0xEA]
  | .set5E => [0xCB, 0xEB]
  | .set5H => [0xCB, 0xEC]
  | .set5L => [0xCB, 0xED]
  | .set5MemHl => [0xCB, 0xEE]
  | .set5A => [0xCB, 0xEF]
  | .set6B => [0xCB, 0xF0]
  | .set6C => [0xCB, 0xF1]
  | .set6D => [0xCB, 0xF2]
  | .set6E => [0xCB, 0xF3]
  | .set6H => [0xCB, 0xF4]
  | .set6L => [0xCB, 0xF5]
  | .set6MemHl => [0xCB, 0xF6]
  | .set6A => [0xCB, 0xF7]
  | .set7B => [0xCB, 0xF8]
  | .set7C => [0xCB, 0xF9]
  | .set7D => [0xCB, 0xFA]
  | .set7E => [0xCB, 0xFB]
  | .set7H => [0xCB, 0xFC]
  | .set7L => [0xCB, 0xFD]
  | .set7MemHl => [0xCB, 0xFE]
  | .set7A => [0xCB, 0xFF]

/-! ## The opcode table's numbering -/

/-- The bytes of a table word, first byte first. The table numbers a CB-page row with the prefix in bits 15 to 8 and the second
byte in bits 7 to 0 (its match is 0xCBxx), and every other row with the first byte in bits 7 to 0 and later bytes above it; the
bare prefix row has no byte after it (log 12). Bytes above `nbits` are 0. -/
def tableBytes (nbits w : Nat) : List Byte :=
  let b0 := w % 256
  let b1 := w / 256 % 256
  let b2 := w / 65536 % 256
  if nbits ≤ 8 && b0 == 0xCB then [0xCB]
  else if b1 == 0xCB && b2 == 0 then [0xCB, BitVec.ofNat 8 b0, 0]
  else [BitVec.ofNat 8 b0, BitVec.ofNat 8 b1, BitVec.ofNat 8 b2]

/-- The instruction the decoder reads from a table word (log 12). -/
def decodeTableWord (nbits w : Nat) : Option Instr :=
  match decode (tableBytes nbits w) with
  | .ok (i, _) => some i
  | .error _ => none

end Sys2Proof
end

