-- ==== Sys2Proof/Config.lean ====
section
/-! DEFINITION. What the spec leaves open (R8 of spec/00_scope.md): each is a constant with no body, so that nothing can be
proved about its value and every statement holds whatever it is. -/

namespace Sys2Proof.Config

/-- The parameter `BOOT_ROM`: the byte at an offset of the boot ROM that the loaded image does not list (R103, D29; log 3). -/
opaque bootRom : Nat → Byte

/-- What the parameter `CART` leaves free: the byte at an offset of the cartridge that the loaded image does not list, but for the
header bytes the loader checks, for which see `openCart` (R100; log 4). -/
opaque cart : Nat → Byte

/-- The parameter `UNUSABLE_READ`: the `n`-th byte drawn by a read of 0xFEA0 to 0xFEFF (R83, D15; log 7). -/
opaque unusableRead : Nat → Byte

/-- The host input `button_event` of the `n`-th step, where the host has supplied none in the state (R404, D11; log 8). -/
opaque buttonEvent : Nat → Bool

end Sys2Proof.Config
end

