-- ==== Sys2Proof/Machine/State.lean ====
section
/-! DEFINITION. The state of the whole machine (spec/10_state.md): CPU, bus, LCD controller, Machine loop. Plain data only. -/

namespace Sys2Proof.Machine

/-- What the CPU does at a step (R32). -/
inductive RunState where
  /-- The CPU fetches and executes. -/
  | running
  /-- Entered by HALT; idle until a request in IF (R403). -/
  | halted
  /-- Entered by STOP; idle until the host's `button_event` (R404). -/
  | stopped
  /-- Entered by the IllegalOpcode fault; no further step until reset (R410). -/
  | faulted
deriving DecidableEq, Repr

/-- `IllegalOpcode{pc, byte}`: where the undefined byte was fetched, and the byte (R34). -/
structure FaultRecord where
  pc : Word
  byte : Byte
deriving DecidableEq, Repr

/-- Read/write storage: cells by address, addresses rising, no cell equal to what an unlisted address reads as (log 6). -/
abbrev Memory := List Host.Cell

/-- A read-only image: the bytes the loader supplied, by offset, offsets rising; a byte it does not list is the open parameter
of Config (log 3, log 4). -/
abbrev Image := List Host.Cell

/-- The machine's state. Fields in the order of spec/10_state.md. -/
structure State where
  /-- The accumulator (R20). -/
  a : Byte
  /-- The flag register: Z, N, H, C in bits 7 to 4, bits 3 to 0 always 0 (R23, R24). -/
  f : Byte
  b : Byte
  c : Byte
  d : Byte
  e : Byte
  h : Byte
  l : Byte
  /-- The program counter (R26). -/
  pc : Word
  /-- The stack pointer (R28). -/
  sp : Word
  /-- The interrupt-master-enable flag (R30). -/
  ime : Bool
  /-- `ime_sched`: an EI whose effect is still to come (R31). -/
  imeSched : Bool
  /-- `run_state` (R32). -/
  runState : RunState
  /-- `fault`: the record kept from the IllegalOpcode fault (R34). -/
  fault : Option FaultRecord
  /-- `cycle_counter`: the cycles of all CPU steps (R35). -/
  cycleCounter : Nat
  /-- `boot_unmap`: the latch that removes the boot-ROM overlay (R33). -/
  bootUnmap : Bool
  /-- `boot_rom`: the bytes supplied of `BOOT_ROM`, by offset (R36, R103). -/
  bootRom : Image
  /-- `cart`: the bytes supplied of `CART`, by offset (R36, R100). -/
  cart : Image
  /-- `vram`, `wram`, `oam`, `io`, `hram` and `ie` in one storage, each byte under its address 0x8000 to 0xFFFF (R36; the
  echo under the address it echoes). IF, LCDC, STAT, SCY, SCX, LY, LYC, BGP, the boot-unmap register and IE are bytes of it
  (R37 to R46). -/
  ram : Memory
  /-- `lcd_acc`: cycles accumulated and not yet converted into scanlines (R47). -/
  lcdAcc : Nat
  /-- `frame_ready` (R47, R442). -/
  frameReady : Bool
  /-- `cycles_this_frame` (R48). -/
  cyclesThisFrame : Nat
  /-- Host inputs `button_event` supplied for the coming steps, the next step's first (R404, R453; log 8). -/
  buttonEvents : List Bool
  /-- The model's own: how many bytes reads of 0xFEA0 to 0xFEFF have drawn (R83; log 7). -/
  draws : Nat
  /-- The model's own: how many steps have taken a `button_event` (log 8). -/
  ticks : Nat
deriving DecidableEq, Repr

/-- Why the machine stops. -/
inductive Fault where
  /-- Raised by `step` in a FAULTED state, with the record the illegal opcode left: the machine is stuck until reset and every
  call returns the recorded fault (R400 step 1, R410, U1, U2). Safe: the spec has no step here. -/
  | illegalOpcode (pc : Word) (byte : Byte)
  /-- Raised by `step` in a FAULTED state that holds no record, which no run reaches (log 2). Safe: no step exists. -/
  | stuck
deriving DecidableEq, Repr

/-- Why an instruction has no meaning. -/
inductive Refusal where
  /-- Raised by `exec` for an instruction whose meaning is not written: no arm answers it. Safe: the machine stops. -/
  | notModelled (mnemonic : String)
deriving DecidableEq, Repr

/-- What an instruction or a step answers. -/
abbrev Result := Host.Outcome State Fault Refusal

/-- The state right after reset (R60, R470): the reset entry point 0x0000 in the boot-ROM overlay, every register and flag 0,
interrupts off, storage zero (log 6, log 23), the two images as the parameters give them (log 3, log 4). -/
def State.reset : State where
  a := 0
  f := 0
  b := 0
  c := 0
  d := 0
  e := 0
  h := 0
  l := 0
  pc := 0
  sp := 0
  ime := false
  imeSched := false
  runState := .running
  fault := none
  cycleCounter := 0
  bootUnmap := false
  bootRom := []
  cart := []
  ram := []
  lcdAcc := 0
  frameReady := false
  cyclesThisFrame := 0
  buttonEvents := []
  draws := 0
  ticks := 0

end Sys2Proof.Machine
end

