-- ==== Sys2Proof/Machine/Ops.lean ====
section
/-! DEFINITION. The operations every meaning is made of: storage, the bus (spec/20_memory.md), the stack, the program counter,
taking an interrupt or the one fault, and returning from an interrupt. -/

namespace Sys2Proof.Machine

/-! ## Storage -/

/-- What a storage byte nobody has written reads as: 0x00, the default of `RAM_INIT` (R60, D13; log 6). -/
def Memory.unlisted (_ : Nat) : Byte := 0x00

/-- The byte at an address. -/
def Memory.load : Memory → Nat → Byte
  | [], k => Memory.unlisted k
  | (j, v) :: m, k => if k = j then v else Memory.load m k

/-- Put a cell in front, unless an unlisted address reads the same. -/
def Memory.cell (k : Nat) (v : Byte) (m : Memory) : Memory :=
  if v = Memory.unlisted k then m else (k, v) :: m

/-- Write a byte, keeping the canonical form. -/
def Memory.store : Memory → Nat → Byte → Memory
  | [], k, v => Memory.cell k v []
  | (j, w) :: m, k, v =>
    if k < j then Memory.cell k v ((j, w) :: m)
    else if k = j then Memory.cell k v m
    else (j, w) :: Memory.store m k v

/-- The canonical form: addresses strictly rising, no cell equal to what an unlisted address reads as. -/
abbrev Memory.wf (m : Memory) : Prop :=
  m.Pairwise (fun x y => x.1 < y.1) ∧ ∀ x ∈ m, x.2 ≠ Memory.unlisted x.1

/-- Write a list of cells, the first first. -/
def Memory.storeAll (m : Memory) (cells : List Host.Cell) : Memory := cells.foldl (fun m x => Memory.store m x.1 x.2) m

/-- The byte an image lists at an offset. -/
def Image.find? : Image → Nat → Option Byte
  | [], _ => none
  | (j, v) :: m, k => if k = j then some v else Image.find? m k

/-- List a byte of an image at an offset, in its place (a load, never a step). -/
def Image.insert : Image → Nat → Byte → Image
  | [], k, v => [(k, v)]
  | (j, w) :: m, k, v =>
    if k < j then (k, v) :: (j, w) :: m
    else if k = j then (k, v) :: m
    else (j, w) :: Image.insert m k v

/-- The form of an image: offsets strictly rising. -/
abbrev Image.wf (m : Image) : Prop := m.Pairwise (fun x y => x.1 < y.1)

/-! ## The address map (R75) -/

/-- The regions of the address map, one per row of R75. -/
inductive Region where
  | overlay | rom | video | external | work | echo | oam | unusable | io | high | enable
deriving DecidableEq, Repr

/-- The region of an address (R75). -/
def regionOf (a : Word) : Region :=
  let n := a.toNat
  if n < 0x0100 then .overlay
  else if n < 0x8000 then .rom
  else if n < 0xA000 then .video
  else if n < 0xC000 then .external
  else if n < 0xE000 then .work
  else if n < 0xFE00 then .echo
  else if n < 0xFEA0 then .oam
  else if n < 0xFF00 then .unusable
  else if n < 0xFF80 then .io
  else if n < 0xFFFF then .high
  else .enable

/-- The storage byte behind an address, by its own address: the echo shares work RAM's (R81); ROM, the external window and the
unusable gap have none (R36). -/
def cellOf (a : Word) : Option Nat :=
  match regionOf a with
  | .overlay | .rom | .external | .unusable => none
  | .echo => some (a.toNat - 0x2000)
  | .video | .work | .oam | .io | .high | .enable => some a.toNat

/-- The addresses of the registers the machine itself uses (R104). -/
def ifAddr : Nat := 0xFF0F
def scyAddr : Nat := 0xFF42
def scxAddr : Nat := 0xFF43
def lyAddr : Nat := 0xFF44
def bootAddr : Nat := 0xFF50
def ieAddr : Nat := 0xFFFF

/-- The byte of the boot ROM at an offset (R103). -/
def State.bootByte (s : State) (k : Nat) : Byte := (Image.find? s.bootRom k).getD (Config.bootRom k)

/-- The header offsets whose byte decides whether the loader accepts an image: type, ROM size, RAM size (R102). -/
def checkedOffset (k : Nat) : Bool := k == 0x0147 || k == 0x0148 || k == 0x0149

/-- The byte that the parameter `CART` has at an offset: free, but that the type of `CART` excludes the images the loader refuses
(R102, U6, U7; log 4), so the type and RAM size bytes are 0x00 and the ROM size byte is 0x00 or 0x01, whichever is free. -/
def openCart (k : Nat) : Byte :=
  if k = 0x0147 ∨ k = 0x0149 then 0x00 else if k = 0x0148 then Config.cart k &&& 0x01 else Config.cart k

/-- The byte of the cartridge at an offset (R77, R100). -/
def State.cartByte (s : State) (k : Nat) : Byte := (Image.find? s.cart k).getD (openCart k)

/-- The byte a read of an address returns in this state (R75). In 0xFEA0 to 0xFEFF it is the next draw (R83; log 7). -/
def State.peek (s : State) (a : Word) : Byte :=
  match regionOf a with
  | .overlay => if s.bootUnmap then s.cartByte a.toNat else s.bootByte a.toNat
  | .rom => s.cartByte a.toNat
  | .external => 0xFF
  | .echo => Memory.load s.ram (a.toNat - 0x2000)
  | .unusable => Config.unusableRead s.draws
  | .video | .work | .oam | .io | .high | .enable => Memory.load s.ram a.toNat

/-- What a read leaves behind: nothing (R94), but that a draw is used up in 0xFEA0 to 0xFEFF (R83; log 7). -/
def State.touch (s : State) (a : Word) : State :=
  match regionOf a with
  | .unusable => { s with draws := s.draws + 1 }
  | .overlay | .rom | .video | .external | .work | .echo | .oam | .io | .high | .enable => s

/-- `MemRead(addr, 1)` (R70). -/
def readByte (a : Word) (s : State) : Byte × State := (s.peek a, s.touch a)

/-- A direct write of a storage byte, without side effects (R91, R106). -/
def State.poke (s : State) (k : Nat) (v : Byte) : State := { s with ram := Memory.store s.ram k v }

/-- A CPU write to an I/O address (R90), with the side effects at LY (R92) and at the boot-unmap register (R93). -/
def writeIo (k : Nat) (v : Byte) (s : State) : State :=
  if k = lyAddr then s.poke lyAddr 0x00
  else if k = bootAddr then { s.poke bootAddr v with bootUnmap := s.bootUnmap || v.getLsbD 0 }
  else s.poke k v

/-- `MemWrite(addr, 1, v)` (R71, R75): a write to a region that does not accept writes changes nothing. -/
def writeByte (a : Word) (v : Byte) (s : State) : State :=
  match regionOf a with
  | .overlay | .rom | .external | .unusable => s
  | .echo => s.poke (a.toNat - 0x2000) v
  | .io => writeIo a.toNat v s
  | .video | .work | .oam | .high | .enable => s.poke a.toNat v

/-- `MemRead(addr, 2)`: low byte at `a`, high byte at `a + 1` (R72). No instruction reads a word this way; the host does. -/
def readWord (a : Word) (s : State) : Word × State :=
  let (lo, s) := readByte a s
  let (hi, s) := readByte (a + 1) s
  (wordOf hi lo, s)

/-- `MemWrite(addr, 2, w)`: low byte first (R73). -/
def writeWord (a : Word) (w : Word) (s : State) : State :=
  writeByte (a + 1) (hiByte w) (writeByte a (loByte w) s)

/-! ## Registers the machine reads directly -/

/-- IF, the interrupt-request byte (R37). -/
def State.ifReg (s : State) : Byte := Memory.load s.ram ifAddr

/-- IE, the interrupt-enable byte (R38). -/
def State.ieReg (s : State) : Byte := Memory.load s.ram ieAddr

/-- LY, the current scanline (R42). -/
def State.ly (s : State) : Byte := Memory.load s.ram lyAddr

/-- SCY, the row of the viewport's origin (R41). -/
def State.scy (s : State) : Byte := Memory.load s.ram scyAddr

/-- SCX, the column of the viewport's origin (R41). -/
def State.scx (s : State) : Byte := Memory.load s.ram scxAddr

/-! ## Program counter and cycles -/

/-- PC moved past `n` instruction bytes, mod 2^16 (R27, R121). -/
def State.advance (s : State) (n : Nat) : State := { s with pc := s.pc + BitVec.ofNat 16 n }

/-- `pc <- target` (R26). -/
def State.jump (s : State) (target : Word) : State := { s with pc := target }

/-- `cycle_counter += n` (R35, R400). -/
def State.tick (s : State) (n : Nat) : State := { s with cycleCounter := s.cycleCounter + n }

/-- An instruction of `len` bytes that returns `cycles`: its effect is computed with PC past all its bytes (R15, R26; log 10). -/
def retire (len cycles : Nat) (effect : State → State) (s : State) : Result :=
  .next ((effect (s.advance len)).tick cycles)

/-! ## The stack -/

/-- `Push16(w)`: high byte at SP - 1, low byte at SP - 2 (R200). -/
def push16 (w : Word) (s : State) : State :=
  let s := { s with sp := s.sp - 1 }
  let s := writeByte s.sp (hiByte w) s
  let s := { s with sp := s.sp - 1 }
  writeByte s.sp (loByte w) s

/-- `Pop16()`: low byte at SP, high byte at SP + 1 (R201). -/
def pop16 (s : State) : Word × State :=
  let (lo, s) := readByte s.sp s
  let s := { s with sp := s.sp + 1 }
  let (hi, s) := readByte s.sp s
  let s := { s with sp := s.sp + 1 }
  (wordOf hi lo, s)

/-! ## Interrupts and the fault -/

/-- `IE & IF & 0x1F`: the requests that are both pending and enabled (R400 step 4). -/
def State.pending (s : State) : Byte := s.ieReg &&& s.ifReg &&& 0x1F

/-- The lowest set bit among bits 0 to 4 (R421). -/
def lowestBit (v : Byte) : Option Nat := (List.range 5).find? (fun k => v.getLsbD k)

/-- The request the interrupt check takes, if any: IME is set, and the lowest pending and enabled bit (R420, R421). -/
def State.interrupt (s : State) : Option Nat := if s.ime then lowestBit s.pending else none

/-- `Dispatch(k)`: taking the interrupt of request bit `k` (R420). The IF bit, IME and `ime_sched` are cleared, PC is pushed, PC
goes to 0x0040 + 8k; it costs 20 cycles. -/
def takeInterrupt (k : Nat) (s : State) : State :=
  let s := s.poke ifAddr (s.ifReg &&& ~~~((1 : Byte) <<< k))
  let s := { s with ime := false, imeSched := false }
  let s := push16 s.pc s
  (s.jump (0x0040 + 8 * BitVec.ofNat 16 k)).tick 20

/-- The return from an interrupt: PC from the stack, IME set at once, a pending EI absorbed (R330, R424). -/
def returnFromInterrupt (s : State) : State :=
  let (w, s) := pop16 s
  { s.jump w with ime := true, imeSched := false }

/-- `raise IllegalOpcode(pc, byte)` with PC at the byte: the record and FAULTED; nothing else changes and no cycles are
reported (R410). -/
def raiseIllegal (byte : Byte) (s : State) : State :=
  { s with fault := some ⟨s.pc, byte⟩, runState := .faulted }

end Sys2Proof.Machine
end

