-- ==== Sys2Proof/Machine/Operands.lean ====
section
/-! DEFINITION. The operand forms: the 8-bit operand table (R124), the pairs (R21, R125, R126), the effective addresses (R134). -/

namespace Sys2Proof.Machine

/-- The value of a register (R20, R124). -/
def State.reg (s : State) : Reg → Byte
  | .a => s.a
  | .b => s.b
  | .c => s.c
  | .d => s.d
  | .e => s.e
  | .h => s.h
  | .l => s.l

/-- A write of a register. -/
def State.setReg (s : State) (r : Reg) (v : Byte) : State :=
  match r with
  | .a => { s with a := v }
  | .b => { s with b := v }
  | .c => { s with c := v }
  | .d => { s with d := v }
  | .e => { s with e := v }
  | .h => { s with h := v }
  | .l => { s with l := v }

/-- `AF = A ++ F` (R21). -/
def State.af (s : State) : Word := wordOf s.a s.f
/-- `BC = B ++ C` (R21). -/
def State.bc (s : State) : Word := wordOf s.b s.c
/-- `DE = D ++ E` (R21). -/
def State.de (s : State) : Word := wordOf s.d s.e
/-- `HL = H ++ L` (R21). -/
def State.hl (s : State) : Word := wordOf s.h s.l

/-- A write of BC (R21). -/
def State.setBc (s : State) (w : Word) : State := { s with b := hiByte w, c := loByte w }
/-- A write of DE (R21). -/
def State.setDe (s : State) (w : Word) : State := { s with d := hiByte w, e := loByte w }
/-- A write of HL (R21). -/
def State.setHl (s : State) (w : Word) : State := { s with h := hiByte w, l := loByte w }
/-- A write of AF: the low byte is masked with 0xF0 (R24, R126). -/
def State.setAf (s : State) (w : Word) : State := { s with a := hiByte w, f := loByte w &&& 0xF0 }

/-- `r8[k]` read (R124): a register, or the byte at HL. -/
def readR8 (x : R8) (s : State) : Byte × State :=
  match x with
  | .reg r => (s.reg r, s)
  | .memHl => readByte s.hl s

/-- `r8[k] <- v` (R124): a register, or the byte at HL. -/
def writeR8 (x : R8) (v : Byte) (s : State) : State :=
  match x with
  | .reg r => s.setReg r v
  | .memHl => writeByte s.hl v s

/-- `rr[p]` read (R125). -/
def State.pair (s : State) : Pair → Word
  | .bc => s.bc
  | .de => s.de
  | .hl => s.hl
  | .sp => s.sp

/-- `rr[p] <- w` (R125). -/
def State.setPair (s : State) (p : Pair) (w : Word) : State :=
  match p with
  | .bc => s.setBc w
  | .de => s.setDe w
  | .hl => s.setHl w
  | .sp => { s with sp := w }

/-- `rr2[p]` read (R126). -/
def State.stackPair (s : State) : StackPair → Word
  | .bc => s.bc
  | .de => s.de
  | .hl => s.hl
  | .af => s.af

/-- `rr2[p] <- w` (R126). -/
def State.setStackPair (s : State) (p : StackPair) (w : Word) : State :=
  match p with
  | .bc => s.setBc w
  | .de => s.setDe w
  | .hl => s.setHl w
  | .af => s.setAf w

/-- The address `0xFF00 + n` (R134). -/
def highPage (n : Byte) : Word := wordOf 0xFF n

end Sys2Proof.Machine
end

