-- ==== Sys2Proof/Machine/Flags.lean ====
section
/-! DEFINITION. The flags (R23 to R25) and every computation that yields them: the 8-bit arithmetic laws (R237), DAA (R233), the
rotates and shifts (R280 to R283, R291 to R298), the 16-bit additions (R260, R263). -/

namespace Sys2Proof.Machine

/-! ## The flag register -/

/-- `F.Z = F[7]` (R23). -/
def State.flagZ (s : State) : Bool := s.f.getLsbD 7
/-- `F.N = F[6]` (R23). -/
def State.flagN (s : State) : Bool := s.f.getLsbD 6
/-- `F.H = F[5]` (R23). -/
def State.flagH (s : State) : Bool := s.f.getLsbD 5
/-- `F.C = F[4]` (R23). -/
def State.flagC (s : State) : Bool := s.f.getLsbD 4

/-- `(Z << 7) | (N << 6) | (H << 5) | (C << 4)` (R23). -/
def packFlags (z n h c : Bool) : Byte :=
  (if z then 0x80 else 0) ||| (if n then 0x40 else 0) ||| (if h then 0x20 else 0) ||| (if c then 0x10 else 0)

/-- A write of all four flags; bits 3 to 0 stay 0 (R24). -/
def State.setFlags (s : State) (z n h c : Bool) : State := { s with f := packFlags z n h c }

/-- The truth of a condition (R320). -/
def State.cond (s : State) : Cond → Bool
  | .nz => !s.flagZ
  | .z => s.flagZ
  | .nc => !s.flagC
  | .c => s.flagC

/-! ## 8-bit arithmetic and logic -/

/-- An 8-bit result with the four flags it yields. -/
structure Flagged where
  value : Byte
  z : Bool
  n : Bool
  h : Bool
  c : Bool
deriving DecidableEq, Repr

/-- `a + x + cin` with its flags (R237, R221, R222). -/
def add8 (a x : Byte) (cin : Bool) : Flagged :=
  let s := a.toNat + x.toNat + cin.toNat
  { value := BitVec.ofNat 8 s
    z := s % 256 == 0
    n := false
    h := decide (a.toNat % 16 + x.toNat % 16 + cin.toNat > 0xF)
    c := decide (s > 0xFF) }

/-- `a - x - cin` with its flags: H and C are borrows, compared on integers (R237, R223, R224). -/
def sub8 (a x : Byte) (cin : Bool) : Flagged :=
  let v := BitVec.ofInt 8 ((a.toNat : Int) - x.toNat - cin.toNat)
  { value := v
    z := v == 0
    n := true
    h := decide (a.toNat % 16 < x.toNat % 16 + cin.toNat)
    c := decide (a.toNat < x.toNat + cin.toNat) }

/-- A bitwise result: Z from it, N and C 0, H as given (R225 to R227). -/
def logic8 (v : Byte) (h : Bool) : Flagged := { value := v, z := v == 0, n := false, h := h, c := false }

/-- The accumulator operations: the value and flags of `op` on A and x with the carry flag before it (R221 to R228). CP's value
is A itself. -/
def aluResult (op : Alu) (a x : Byte) (cin : Bool) : Flagged :=
  match op with
  | .add => add8 a x false
  | .adc => add8 a x cin
  | .sub => sub8 a x false
  | .sbc => sub8 a x cin
  | .and => logic8 (a &&& x) true
  | .xor => logic8 (a ^^^ x) false
  | .or => logic8 (a ||| x) false
  | .cp => { sub8 a x false with value := a }

/-- `v + 1`: H from the low nibble, C left as it is (R229, R230). -/
def inc8 (v : Byte) (c : Bool) : Flagged :=
  { value := v + 1, z := v == 0xFF, n := false, h := v &&& 0xF == 0xF, c := c }

/-- `v - 1`: H from the low nibble, C left as it is (R231, R232). -/
def dec8 (v : Byte) (c : Bool) : Flagged :=
  { value := v - 1, z := v == 0x01, n := true, h := v &&& 0xF == 0x0, c := c }

/-- DAA on A with the flags N, H, C before it (R233). -/
def daa8 (a : Byte) (n h c : Bool) : Flagged :=
  if n then
    let a1 := if c then a - 0x60 else a
    let a2 := if h then a1 - 0x06 else a1
    { value := a2, z := a2 == 0, n := n, h := false, c := c }
  else
    let high := c || decide (a.toNat > 0x99)
    let a1 := if high then a + 0x60 else a
    let a2 := if h || decide ((a1 &&& 0x0F).toNat > 0x09) then a1 + 0x06 else a1
    { value := a2, z := a2 == 0, n := n, h := false, c := high }

/-! ## Rotates and shifts -/

/-- The bit shifted out by a rotate or shift; SWAP shifts nothing out (R291 to R298). -/
def rotOut (op : Rot) (v : Byte) : Bool :=
  match op with
  | .rlc | .rl | .sla => v.getLsbD 7
  | .rrc | .rr | .sra | .srl => v.getLsbD 0
  | .swap => false

/-- The result of a rotate or shift with the carry flag before it (R291 to R298, R280 to R283). -/
def rotValue (op : Rot) (v : Byte) (cin : Bool) : Byte :=
  let bit (p : Bool) (x : Byte) : Byte := if p then x else 0
  match op with
  | .rlc => (v <<< 1) ||| bit (v.getLsbD 7) 0x01
  | .rrc => (v >>> 1) ||| bit (v.getLsbD 0) 0x80
  | .rl => (v <<< 1) ||| bit cin 0x01
  | .rr => (v >>> 1) ||| bit cin 0x80
  | .sla => v <<< 1
  | .sra => (v >>> 1) ||| (v &&& 0x80)
  | .swap => (v <<< 4) ||| (v >>> 4)
  | .srl => v >>> 1

/-- A CB-page rotate or shift: Z from the result, N and H 0, C the bit shifted out (R290). -/
def rotResult (op : Rot) (v : Byte) (cin : Bool) : Flagged :=
  let r := rotValue op v cin
  { value := r, z := r == 0, n := false, h := false, c := rotOut op v }

/-! ## 16-bit additions -/

/-- The carry out of bit 11 of a 16-bit addition (R260). -/
def carry11 (x y : Word) : Bool := decide (x.toNat % 0x1000 + y.toNat % 0x1000 > 0x0FFF)

/-- The carry out of bit 15 of a 16-bit addition (R260). -/
def carry15 (x y : Word) : Bool := decide (x.toNat + y.toNat > 0xFFFF)

/-- The carry out of bit 3 of SP's low byte plus the raw offset byte (R263). -/
def carry3 (x : Word) (e : Byte) : Bool := decide (x.toNat % 16 + e.toNat % 16 > 0x0F)

/-- The carry out of bit 7 of SP's low byte plus the raw offset byte (R263). -/
def carry7 (x : Word) (e : Byte) : Bool := decide (x.toNat % 256 + e.toNat > 0xFF)

/-! ## Writing results back -/

/-- The four flags from a computed result. -/
def State.flagsFrom (s : State) (r : Flagged) : State := s.setFlags r.z r.n r.h r.c

end Sys2Proof.Machine
end

