-- ==== Sys2Proof/Machine/Alu16.lean ====
section
/-! DEFINITION. 16-bit arithmetic (spec/43_alu16.md, R260 to R264). -/

namespace Sys2Proof.Machine

/-- `ADD HL,rr`: Z unchanged, N 0, H and C the carries out of bits 11 and 15 (R260). -/
def addHlOp (p : Pair) (len cycles : Nat) (s : State) : Result :=
  retire len cycles (fun s =>
    let w := s.pair p
    (s.setHl (s.hl + w)).setFlags s.flagZ false (carry11 s.hl w) (carry15 s.hl w)) s

/-- `INC rr`: no flag (R261). -/
def incPairOp (p : Pair) (len cycles : Nat) (s : State) : Result :=
  retire len cycles (fun s => s.setPair p (s.pair p + 1)) s

/-- `DEC rr`: no flag (R262). -/
def decPairOp (p : Pair) (len cycles : Nat) (s : State) : Result :=
  retire len cycles (fun s => s.setPair p (s.pair p - 1)) s

/-- The flags of SP plus a signed byte: Z and N 0, H and C from the unsigned addition of the low bytes (R263, R264). -/
def State.setSpFlags (s : State) (e : Byte) : State := s.setFlags false false (carry3 s.sp e) (carry7 s.sp e)


/-- `ADD HL,BC` (R260). -/
def execAddHlBc (s : State) : Result := addHlOp .bc 1 8 s
/-- `ADD HL,DE` (R260). -/
def execAddHlDe (s : State) : Result := addHlOp .de 1 8 s
/-- `ADD HL,HL` (R260). -/
def execAddHlHl (s : State) : Result := addHlOp .hl 1 8 s
/-- `ADD HL,SP` (R260). -/
def execAddHlSp (s : State) : Result := addHlOp .sp 1 8 s

/-- `INC BC` (R261). -/
def execIncBc (s : State) : Result := incPairOp .bc 1 8 s
/-- `INC DE` (R261). -/
def execIncDe (s : State) : Result := incPairOp .de 1 8 s
/-- `INC HL` (R261). -/
def execIncHl (s : State) : Result := incPairOp .hl 1 8 s
/-- `INC SP` (R261). -/
def execIncSp (s : State) : Result := incPairOp .sp 1 8 s

/-- `DEC BC` (R262). -/
def execDecBc (s : State) : Result := decPairOp .bc 1 8 s
/-- `DEC DE` (R262). -/
def execDecDe (s : State) : Result := decPairOp .de 1 8 s
/-- `DEC HL` (R262). -/
def execDecHl (s : State) : Result := decPairOp .hl 1 8 s
/-- `DEC SP` (R262). -/
def execDecSp (s : State) : Result := decPairOp .sp 1 8 s

/-- `ADD SP,r8` (R263). -/
def execAddSpR8 (r8 : Byte) (s : State) : Result :=
  retire 2 16 (fun s => { s.setSpFlags r8 with sp := s.sp + sext8 r8 }) s
/-- `LD HL,SP+r8` (R264). -/
def execLdHlSpPlusR8 (r8 : Byte) (s : State) : Result :=
  retire 2 12 (fun s => (s.setSpFlags r8).setHl (s.sp + sext8 r8)) s

end Sys2Proof.Machine
end

