-- ==== Sys2Proof/Machine/Control.lean ====
section
/-! DEFINITION. Control instructions and the undefined first bytes (spec/48_control_misc.md, R350 to R355). -/

namespace Sys2Proof.Machine

/-- `NOP` (R350). -/
def execNop (s : State) : Result := retire 1 4 id s
/-- `HALT`: PC is left at the byte after it (R351). -/
def execHalt (s : State) : Result := retire 1 4 (fun s => { s with runState := .halted }) s
/-- `STOP`: the pad byte is read and ignored (R352). -/
def execStop (_pad : Byte) (s : State) : Result := retire 2 4 (fun s => { s with runState := .stopped }) s
/-- `DI`: at once, and a pending EI is cancelled (R353). -/
def execDi (s : State) : Result := retire 1 4 (fun s => { s with ime := false, imeSched := false }) s
/-- `EI`: IME itself changes only after the next instruction (R354). -/
def execEi (s : State) : Result := retire 1 4 (fun s => { s with imeSched := true }) s

/-- An undefined first byte raises IllegalOpcode, PC left at the byte (R355, R410; log 2). -/
def undefinedOp (byte : Byte) (s : State) : Result := .next (raiseIllegal byte s)


/-- `ILLEGAL_D3` (R355). -/
def execIllegalD3 (s : State) : Result := undefinedOp 0xD3 s
/-- `ILLEGAL_DB` (R355). -/
def execIllegalDB (s : State) : Result := undefinedOp 0xDB s
/-- `ILLEGAL_DD` (R355). -/
def execIllegalDD (s : State) : Result := undefinedOp 0xDD s
/-- `ILLEGAL_E3` (R355). -/
def execIllegalE3 (s : State) : Result := undefinedOp 0xE3 s
/-- `ILLEGAL_E4` (R355). -/
def execIllegalE4 (s : State) : Result := undefinedOp 0xE4 s
/-- `ILLEGAL_EB` (R355). -/
def execIllegalEB (s : State) : Result := undefinedOp 0xEB s
/-- `ILLEGAL_EC` (R355). -/
def execIllegalEC (s : State) : Result := undefinedOp 0xEC s
/-- `ILLEGAL_ED` (R355). -/
def execIllegalED (s : State) : Result := undefinedOp 0xED s
/-- `ILLEGAL_F4` (R355). -/
def execIllegalF4 (s : State) : Result := undefinedOp 0xF4 s
/-- `ILLEGAL_FC` (R355). -/
def execIllegalFC (s : State) : Result := undefinedOp 0xFC s
/-- `ILLEGAL_FD` (R355). -/
def execIllegalFD (s : State) : Result := undefinedOp 0xFD s

end Sys2Proof.Machine
end

