-- ==== Sys2Proof/Machine/JumpCall.lean ====
section
/-! DEFINITION. Jumps, calls, returns, restarts (spec/47_jump_call.md, R320 to R331): no flag is written. -/

namespace Sys2Proof.Machine

/-- A conditional instruction: `taken` runs when the condition holds, else only PC and the cycles move (R322, R325, R327, R329). -/
def retireIf (cc : Cond) (len cyclesTaken cyclesNot : Nat) (taken : State → State) (s : State) : Result :=
  if s.cond cc then retire len cyclesTaken taken s else retire len cyclesNot id s

/-- `PC <- (PC + sext_8(e)) mod 2^16`, PC past the instruction (R324). -/
def State.jumpRel (s : State) (e : Byte) : State := s.jump (s.pc + sext8 e)

/-- `Push16(PC); PC <- a`, PC past the instruction (R326, R331). -/
def callTo (a : Word) (s : State) : State := (push16 s.pc s).jump a

/-- `PC <- Pop16()` (R328). -/
def returnFrom (s : State) : State :=
  let (w, s) := pop16 s
  s.jump w

/-- `JP cc,a16` (R322). -/
def jpCcOp (cc : Cond) (a : Word) (len cyclesTaken cyclesNot : Nat) (s : State) : Result :=
  retireIf cc len cyclesTaken cyclesNot (fun s => s.jump a) s

/-- `JR cc,r8` (R325). -/
def jrCcOp (cc : Cond) (e : Byte) (len cyclesTaken cyclesNot : Nat) (s : State) : Result :=
  retireIf cc len cyclesTaken cyclesNot (fun s => s.jumpRel e) s

/-- `CALL cc,a16` (R327). -/
def callCcOp (cc : Cond) (a : Word) (len cyclesTaken cyclesNot : Nat) (s : State) : Result :=
  retireIf cc len cyclesTaken cyclesNot (callTo a) s

/-- `RET cc` (R329). -/
def retCcOp (cc : Cond) (len cyclesTaken cyclesNot : Nat) (s : State) : Result :=
  retireIf cc len cyclesTaken cyclesNot returnFrom s

/-- `RST n`: a call to 8 t (R331). -/
def rstOp (t : Fin 8) (len cycles : Nat) (s : State) : Result :=
  retire len cycles (callTo (BitVec.ofNat 16 (8 * t.val))) s

/-- `JP a16` (R321). -/
def execJpA16 (a16 : Word) (s : State) : Result := retire 3 16 (fun s => s.jump a16) s
/-- `JP (HL)`: the target is HL itself (R323). -/
def execJpMemHl (s : State) : Result := retire 1 4 (fun s => s.jump s.hl) s
/-- `JR r8` (R324). -/
def execJrR8 (r8 : Byte) (s : State) : Result := retire 2 12 (fun s => s.jumpRel r8) s
/-- `CALL a16` (R326). -/
def execCallA16 (a16 : Word) (s : State) : Result := retire 3 24 (callTo a16) s
/-- `RET` (R328). -/
def execRet (s : State) : Result := retire 1 16 returnFrom s
/-- `RETI` (R330). -/
def execReti (s : State) : Result := retire 1 16 returnFromInterrupt s


/-- `JP NZ,a16` (R322). -/
def execJpNzA16 (a16 : Word) (s : State) : Result := jpCcOp .nz a16 3 16 12 s
/-- `JP Z,a16` (R322). -/
def execJpZA16 (a16 : Word) (s : State) : Result := jpCcOp .z a16 3 16 12 s
/-- `JP NC,a16` (R322). -/
def execJpNcA16 (a16 : Word) (s : State) : Result := jpCcOp .nc a16 3 16 12 s
/-- `JP C,a16` (R322). -/
def execJpCA16 (a16 : Word) (s : State) : Result := jpCcOp .c a16 3 16 12 s

/-- `JR NZ,r8` (R325). -/
def execJrNzR8 (r8 : Byte) (s : State) : Result := jrCcOp .nz r8 2 12 8 s
/-- `JR Z,r8` (R325). -/
def execJrZR8 (r8 : Byte) (s : State) : Result := jrCcOp .z r8 2 12 8 s
/-- `JR NC,r8` (R325). -/
def execJrNcR8 (r8 : Byte) (s : State) : Result := jrCcOp .nc r8 2 12 8 s
/-- `JR C,r8` (R325). -/
def execJrCR8 (r8 : Byte) (s : State) : Result := jrCcOp .c r8 2 12 8 s

/-- `CALL NZ,a16` (R327). -/
def execCallNzA16 (a16 : Word) (s : State) : Result := callCcOp .nz a16 3 24 12 s
/-- `CALL Z,a16` (R327). -/
def execCallZA16 (a16 : Word) (s : State) : Result := callCcOp .z a16 3 24 12 s
/-- `CALL NC,a16` (R327). -/
def execCallNcA16 (a16 : Word) (s : State) : Result := callCcOp .nc a16 3 24 12 s
/-- `CALL C,a16` (R327). -/
def execCallCA16 (a16 : Word) (s : State) : Result := callCcOp .c a16 3 24 12 s

/-- `RET NZ` (R329). -/
def execRetNz (s : State) : Result := retCcOp .nz 1 20 8 s
/-- `RET Z` (R329). -/
def execRetZ (s : State) : Result := retCcOp .z 1 20 8 s
/-- `RET NC` (R329). -/
def execRetNc (s : State) : Result := retCcOp .nc 1 20 8 s
/-- `RET C` (R329). -/
def execRetC (s : State) : Result := retCcOp .c 1 20 8 s

/-- `RST 00H` (R331). -/
def execRst00H (s : State) : Result := rstOp 0 1 16 s
/-- `RST 08H` (R331). -/
def execRst08H (s : State) : Result := rstOp 1 1 16 s
/-- `RST 10H` (R331). -/
def execRst10H (s : State) : Result := rstOp 2 1 16 s
/-- `RST 18H` (R331). -/
def execRst18H (s : State) : Result := rstOp 3 1 16 s
/-- `RST 20H` (R331). -/
def execRst20H (s : State) : Result := rstOp 4 1 16 s
/-- `RST 28H` (R331). -/
def execRst28H (s : State) : Result := rstOp 5 1 16 s
/-- `RST 30H` (R331). -/
def execRst30H (s : State) : Result := rstOp 6 1 16 s
/-- `RST 38H` (R331). -/
def execRst38H (s : State) : Result := rstOp 7 1 16 s

end Sys2Proof.Machine
end

