-- ==== Sys2Proof/Machine/Ld16Stack.lean ====
section
/-! DEFINITION. 16-bit loads and the stack (spec/41_ld16_stack.md, R200 to R208). -/

namespace Sys2Proof.Machine

/-- `rr[p] <- w` (R202). -/
def ldPairD16Op (p : Pair) (w : Word) (len cycles : Nat) (s : State) : Result :=
  retire len cycles (fun s => s.setPair p w) s

/-- `Push16(rr2[p])` (R205, R206). -/
def pushOp (p : StackPair) (len cycles : Nat) (s : State) : Result :=
  retire len cycles (fun s => push16 (s.stackPair p) s) s

/-- `rr2[p] <- Pop16()`, AF's low byte masked (R207, R208). -/
def popOp (p : StackPair) (len cycles : Nat) (s : State) : Result :=
  retire len cycles (fun s => let (w, s) := pop16 s; s.setStackPair p w) s


/-- `LD BC,d16` (R202). -/
def execLdBcD16 (d16 : Word) (s : State) : Result := ldPairD16Op .bc d16 3 12 s
/-- `LD DE,d16` (R202). -/
def execLdDeD16 (d16 : Word) (s : State) : Result := ldPairD16Op .de d16 3 12 s
/-- `LD HL,d16` (R202). -/
def execLdHlD16 (d16 : Word) (s : State) : Result := ldPairD16Op .hl d16 3 12 s
/-- `LD SP,d16` (R202). -/
def execLdSpD16 (d16 : Word) (s : State) : Result := ldPairD16Op .sp d16 3 12 s

/-- `LD (a16),SP` (R203). -/
def execLdMemA16Sp (a16 : Word) (s : State) : Result := retire 3 20 (fun s => writeWord a16 s.sp s) s
/-- `LD SP,HL` (R204). -/
def execLdSpHl (s : State) : Result := retire 1 8 (fun s => { s with sp := s.hl }) s

/-- `PUSH BC` (R205). -/
def execPushBc (s : State) : Result := pushOp .bc 1 16 s
/-- `PUSH DE` (R205). -/
def execPushDe (s : State) : Result := pushOp .de 1 16 s
/-- `PUSH HL` (R205). -/
def execPushHl (s : State) : Result := pushOp .hl 1 16 s
/-- `PUSH AF` (R206). -/
def execPushAf (s : State) : Result := pushOp .af 1 16 s

/-- `POP BC` (R207). -/
def execPopBc (s : State) : Result := popOp .bc 1 12 s
/-- `POP DE` (R207). -/
def execPopDe (s : State) : Result := popOp .de 1 12 s
/-- `POP HL` (R207). -/
def execPopHl (s : State) : Result := popOp .hl 1 12 s
/-- `POP AF` (R208). -/
def execPopAf (s : State) : Result := popOp .af 1 12 s

end Sys2Proof.Machine
end

