-- ==== Sys2Proof/Machine/Ld8.lean ====
section
/-! DEFINITION. 8-bit loads (spec/40_ld8.md, R160 to R179): no flag is written, every access obeys the address map. -/

namespace Sys2Proof.Machine

/-! ## Register and (HL) forms -/

/-- `r8[d] <- r8[s]` (R161). -/
def ldRegRegOp (dst src : Reg) (len cycles : Nat) (s : State) : Result :=
  retire len cycles (fun s => s.setReg dst (s.reg src)) s

/-- `r8[d] <- MemRead(HL, 1)`, the address read before the register is written (R162). -/
def ldRegMemHlOp (dst : Reg) (len cycles : Nat) (s : State) : Result :=
  retire len cycles (fun s => let (v, s) := readByte s.hl s; s.setReg dst v) s

/-- `MemWrite(HL, 1, r8[s])` (R163). -/
def ldMemHlRegOp (src : Reg) (len cycles : Nat) (s : State) : Result :=
  retire len cycles (fun s => writeByte s.hl (s.reg src) s) s

/-- `r8[d] <- n` (R164). -/
def ldRegD8Op (dst : Reg) (n : Byte) (len cycles : Nat) (s : State) : Result :=
  retire len cycles (fun s => s.setReg dst n) s

/-- `A <- MemRead(addr, 1)`. -/
def loadA (addr : Word) (s : State) : State :=
  let (v, s) := readByte addr s
  { s with a := v }


/-- `LD B,B` (R161). -/
def execLdBB (s : State) : Result := ldRegRegOp .b .b 1 4 s
/-- `LD B,C` (R161). -/
def execLdBC (s : State) : Result := ldRegRegOp .b .c 1 4 s
/-- `LD B,D` (R161). -/
def execLdBD (s : State) : Result := ldRegRegOp .b .d 1 4 s
/-- `LD B,E` (R161). -/
def execLdBE (s : State) : Result := ldRegRegOp .b .e 1 4 s
/-- `LD B,H` (R161). -/
def execLdBH (s : State) : Result := ldRegRegOp .b .h 1 4 s
/-- `LD B,L` (R161). -/
def execLdBL (s : State) : Result := ldRegRegOp .b .l 1 4 s
/-- `LD B,A` (R161). -/
def execLdBA (s : State) : Result := ldRegRegOp .b .a 1 4 s
/-- `LD C,B` (R161). -/
def execLdCB (s : State) : Result := ldRegRegOp .c .b 1 4 s
/-- `LD C,C` (R161). -/
def execLdCC (s : State) : Result := ldRegRegOp .c .c 1 4 s
/-- `LD C,D` (R161). -/
def execLdCD (s : State) : Result := ldRegRegOp .c .d 1 4 s
/-- `LD C,E` (R161). -/
def execLdCE (s : State) : Result := ldRegRegOp .c .e 1 4 s
/-- `LD C,H` (R161). -/
def execLdCH (s : State) : Result := ldRegRegOp .c .h 1 4 s
/-- `LD C,L` (R161). -/
def execLdCL (s : State) : Result := ldRegRegOp .c .l 1 4 s
/-- `LD C,A` (R161). -/
def execLdCA (s : State) : Result := ldRegRegOp .c .a 1 4 s
/-- `LD D,B` (R161). -/
def execLdDB (s : State) : Result := ldRegRegOp .d .b 1 4 s
/-- `LD D,C` (R161). -/
def execLdDC (s : State) : Result := ldRegRegOp .d .c 1 4 s
/-- `LD D,D` (R161). -/
def execLdDD (s : State) : Result := ldRegRegOp .d .d 1 4 s
/-- `LD D,E` (R161). -/
def execLdDE (s : State) : Result := ldRegRegOp .d .e 1 4 s
/-- `LD D,H` (R161). -/
def execLdDH (s : State) : Result := ldRegRegOp .d .h 1 4 s
/-- `LD D,L` (R161). -/
def execLdDL (s : State) : Result := ldRegRegOp .d .l 1 4 s
/-- `LD D,A` (R161). -/
def execLdDA (s : State) : Result := ldRegRegOp .d .a 1 4 s
/-- `LD E,B` (R161). -/
def execLdEB (s : State) : Result := ldRegRegOp .e .b 1 4 s
/-- `LD E,C` (R161). -/
def execLdEC (s : State) : Result := ldRegRegOp .e .c 1 4 s
/-- `LD E,D` (R161). -/
def execLdED (s : State) : Result := ldRegRegOp .e .d 1 4 s
/-- `LD E,E` (R161). -/
def execLdEE (s : State) : Result := ldRegRegOp .e .e 1 4 s
/-- `LD E,H` (R161). -/
def execLdEH (s : State) : Result := ldRegRegOp .e .h 1 4 s
/-- `LD E,L` (R161). -/
def execLdEL (s : State) : Result := ldRegRegOp .e .l 1 4 s
/-- `LD E,A` (R161). -/
def execLdEA (s : State) : Result := ldRegRegOp .e .a 1 4 s
/-- `LD H,B` (R161). -/
def execLdHB (s : State) : Result := ldRegRegOp .h .b 1 4 s
/-- `LD H,C` (R161). -/
def execLdHC (s : State) : Result := ldRegRegOp .h .c 1 4 s
/-- `LD H,D` (R161). -/
def execLdHD (s : State) : Result := ldRegRegOp .h .d 1 4 s
/-- `LD H,E` (R161). -/
def execLdHE (s : State) : Result := ldRegRegOp .h .e 1 4 s
/-- `LD H,H` (R161). -/
def execLdHH (s : State) : Result := ldRegRegOp .h .h 1 4 s
/-- `LD H,L` (R161). -/
def execLdHL (s : State) : Result := ldRegRegOp .h .l 1 4 s
/-- `LD H,A` (R161). -/
def execLdHA (s : State) : Result := ldRegRegOp .h .a 1 4 s
/-- `LD L,B` (R161). -/
def execLdLB (s : State) : Result := ldRegRegOp .l .b 1 4 s
/-- `LD L,C` (R161). -/
def execLdLC (s : State) : Result := ldRegRegOp .l .c 1 4 s
/-- `LD L,D` (R161). -/
def execLdLD (s : State) : Result := ldRegRegOp .l .d 1 4 s
/-- `LD L,E` (R161). -/
def execLdLE (s : State) : Result := ldRegRegOp .l .e 1 4 s
/-- `LD L,H` (R161). -/
def execLdLH (s : State) : Result := ldRegRegOp .l .h 1 4 s
/-- `LD L,L` (R161). -/
def execLdLL (s : State) : Result := ldRegRegOp .l .l 1 4 s
/-- `LD L,A` (R161). -/
def execLdLA (s : State) : Result := ldRegRegOp .l .a 1 4 s
/-- `LD A,B` (R161). -/
def execLdAB (s : State) : Result := ldRegRegOp .a .b 1 4 s
/-- `LD A,C` (R161). -/
def execLdAC (s : State) : Result := ldRegRegOp .a .c 1 4 s
/-- `LD A,D` (R161). -/
def execLdAD (s : State) : Result := ldRegRegOp .a .d 1 4 s
/-- `LD A,E` (R161). -/
def execLdAE (s : State) : Result := ldRegRegOp .a .e 1 4 s
/-- `LD A,H` (R161). -/
def execLdAH (s : State) : Result := ldRegRegOp .a .h 1 4 s
/-- `LD A,L` (R161). -/
def execLdAL (s : State) : Result := ldRegRegOp .a .l 1 4 s
/-- `LD A,A` (R161). -/
def execLdAA (s : State) : Result := ldRegRegOp .a .a 1 4 s

/-- `LD B,(HL)` (R162). -/
def execLdBMemHl (s : State) : Result := ldRegMemHlOp .b 1 8 s
/-- `LD C,(HL)` (R162). -/
def execLdCMemHl (s : State) : Result := ldRegMemHlOp .c 1 8 s
/-- `LD D,(HL)` (R162). -/
def execLdDMemHl (s : State) : Result := ldRegMemHlOp .d 1 8 s
/-- `LD E,(HL)` (R162). -/
def execLdEMemHl (s : State) : Result := ldRegMemHlOp .e 1 8 s
/-- `LD H,(HL)` (R162). -/
def execLdHMemHl (s : State) : Result := ldRegMemHlOp .h 1 8 s
/-- `LD L,(HL)` (R162). -/
def execLdLMemHl (s : State) : Result := ldRegMemHlOp .l 1 8 s
/-- `LD A,(HL)` (R162). -/
def execLdAMemHl (s : State) : Result := ldRegMemHlOp .a 1 8 s

/-- `LD (HL),B` (R163). -/
def execLdMemHlB (s : State) : Result := ldMemHlRegOp .b 1 8 s
/-- `LD (HL),C` (R163). -/
def execLdMemHlC (s : State) : Result := ldMemHlRegOp .c 1 8 s
/-- `LD (HL),D` (R163). -/
def execLdMemHlD (s : State) : Result := ldMemHlRegOp .d 1 8 s
/-- `LD (HL),E` (R163). -/
def execLdMemHlE (s : State) : Result := ldMemHlRegOp .e 1 8 s
/-- `LD (HL),H` (R163). -/
def execLdMemHlH (s : State) : Result := ldMemHlRegOp .h 1 8 s
/-- `LD (HL),L` (R163). -/
def execLdMemHlL (s : State) : Result := ldMemHlRegOp .l 1 8 s
/-- `LD (HL),A` (R163). -/
def execLdMemHlA (s : State) : Result := ldMemHlRegOp .a 1 8 s

/-! ## Immediate forms -/


/-- `LD B,d8` (R164). -/
def execLdBD8 (d8 : Byte) (s : State) : Result := ldRegD8Op .b d8 2 8 s
/-- `LD C,d8` (R164). -/
def execLdCD8 (d8 : Byte) (s : State) : Result := ldRegD8Op .c d8 2 8 s
/-- `LD D,d8` (R164). -/
def execLdDD8 (d8 : Byte) (s : State) : Result := ldRegD8Op .d d8 2 8 s
/-- `LD E,d8` (R164). -/
def execLdED8 (d8 : Byte) (s : State) : Result := ldRegD8Op .e d8 2 8 s
/-- `LD H,d8` (R164). -/
def execLdHD8 (d8 : Byte) (s : State) : Result := ldRegD8Op .h d8 2 8 s
/-- `LD L,d8` (R164). -/
def execLdLD8 (d8 : Byte) (s : State) : Result := ldRegD8Op .l d8 2 8 s
/-- `LD A,d8` (R164). -/
def execLdAD8 (d8 : Byte) (s : State) : Result := ldRegD8Op .a d8 2 8 s

/-- `LD (HL),d8` (R165). -/
def execLdMemHlD8 (d8 : Byte) (s : State) : Result := retire 2 12 (fun s => writeByte s.hl d8 s) s

/-! ## Accumulator through BC, DE -/

/-- `LD A,(BC)` (R166). -/
def execLdAMemBc (s : State) : Result := retire 1 8 (fun s => loadA s.bc s) s
/-- `LD A,(DE)` (R167). -/
def execLdAMemDe (s : State) : Result := retire 1 8 (fun s => loadA s.de s) s
/-- `LD (BC),A` (R168). -/
def execLdMemBcA (s : State) : Result := retire 1 8 (fun s => writeByte s.bc s.a s) s
/-- `LD (DE),A` (R169). -/
def execLdMemDeA (s : State) : Result := retire 1 8 (fun s => writeByte s.de s.a s) s

/-! ## Accumulator through HL, which then changes mod 2^16 -/

/-- `LD (HL+),A` (R170). -/
def execLdMemHlIncA (s : State) : Result := retire 1 8 (fun s => let t := writeByte s.hl s.a s; t.setHl (t.hl + 1)) s
/-- `LD A,(HL+)` (R171). -/
def execLdAMemHlInc (s : State) : Result := retire 1 8 (fun s => let t := loadA s.hl s; t.setHl (t.hl + 1)) s
/-- `LD (HL-),A` (R172). -/
def execLdMemHlDecA (s : State) : Result := retire 1 8 (fun s => let t := writeByte s.hl s.a s; t.setHl (t.hl - 1)) s
/-- `LD A,(HL-)` (R173). -/
def execLdAMemHlDec (s : State) : Result := retire 1 8 (fun s => let t := loadA s.hl s; t.setHl (t.hl - 1)) s

/-! ## High page and absolute address -/

/-- `LDH (a8),A` (R174). -/
def execLdhMemA8A (a8 : Byte) (s : State) : Result := retire 2 12 (fun s => writeByte (highPage a8) s.a s) s
/-- `LDH A,(a8)` (R175). -/
def execLdhAMemA8 (a8 : Byte) (s : State) : Result := retire 2 12 (loadA (highPage a8)) s
/-- `LD (C),A` (R176). -/
def execLdMemCA (s : State) : Result := retire 1 8 (fun s => writeByte (highPage s.c) s.a s) s
/-- `LD A,(C)` (R177). -/
def execLdAMemC (s : State) : Result := retire 1 8 (fun s => loadA (highPage s.c) s) s
/-- `LD (a16),A` (R178). -/
def execLdMemA16A (a16 : Word) (s : State) : Result := retire 3 16 (fun s => writeByte a16 s.a s) s
/-- `LD A,(a16)` (R179). -/
def execLdAMemA16 (a16 : Word) (s : State) : Result := retire 3 16 (loadA a16) s

end Sys2Proof.Machine
end

