-- ==== Sys2Proof/Machine/CbBit.lean ====
section
/-! DEFINITION. The CB page's BIT, RES and SET (spec/46_cb_bit.md, R310 to R312). -/

namespace Sys2Proof.Machine

/-- `BIT b,x`: Z the inverted bit, N 0, H 1, C unchanged; the operand is not written (R310). -/
def bitOp (b : Fin 8) (x : R8) (len cycles : Nat) (s : State) : Result :=
  retire len cycles (fun s =>
    let (v, s) := readR8 x s
    s.setFlags (!v.getLsbD b) false true s.flagC) s

/-- `RES b,x`: no flag (R311). -/
def resOp (b : Fin 8) (x : R8) (len cycles : Nat) (s : State) : Result :=
  retire len cycles (fun s =>
    let (v, s) := readR8 x s
    writeR8 x (v &&& ~~~((1 : Byte) <<< b.val)) s) s

/-- `SET b,x`: no flag (R312). -/
def setOp (b : Fin 8) (x : R8) (len cycles : Nat) (s : State) : Result :=
  retire len cycles (fun s =>
    let (v, s) := readR8 x s
    writeR8 x (v ||| (1 : Byte) <<< b.val) s) s


/-- `BIT 0,B` (R310). -/
def execBit0B (s : State) : Result := bitOp 0 (.reg .b) 2 8 s
/-- `BIT 0,C` (R310). -/
def execBit0C (s : State) : Result := bitOp 0 (.reg .c) 2 8 s
/-- `BIT 0,D` (R310). -/
def execBit0D (s : State) : Result := bitOp 0 (.reg .d) 2 8 s
/-- `BIT 0,E` (R310). -/
def execBit0E (s : State) : Result := bitOp 0 (.reg .e) 2 8 s
/-- `BIT 0,H` (R310). -/
def execBit0H (s : State) : Result := bitOp 0 (.reg .h) 2 8 s
/-- `BIT 0,L` (R310). -/
def execBit0L (s : State) : Result := bitOp 0 (.reg .l) 2 8 s
/-- `BIT 0,(HL)` (R310). -/
def execBit0MemHl (s : State) : Result := bitOp 0 .memHl 2 12 s
/-- `BIT 0,A` (R310). -/
def execBit0A (s : State) : Result := bitOp 0 (.reg .a) 2 8 s
/-- `BIT 1,B` (R310). -/
def execBit1B (s : State) : Result := bitOp 1 (.reg .b) 2 8 s
/-- `BIT 1,C` (R310). -/
def execBit1C (s : State) : Result := bitOp 1 (.reg .c) 2 8 s
/-- `BIT 1,D` (R310). -/
def execBit1D (s : State) : Result := bitOp 1 (.reg .d) 2 8 s
/-- `BIT 1,E` (R310). -/
def execBit1E (s : State) : Result := bitOp 1 (.reg .e) 2 8 s
/-- `BIT 1,H` (R310). -/
def execBit1H (s : State) : Result := bitOp 1 (.reg .h) 2 8 s
/-- `BIT 1,L` (R310). -/
def execBit1L (s : State) : Result := bitOp 1 (.reg .l) 2 8 s
/-- `BIT 1,(HL)` (R310). -/
def execBit1MemHl (s : State) : Result := bitOp 1 .memHl 2 12 s
/-- `BIT 1,A` (R310). -/
def execBit1A (s : State) : Result := bitOp 1 (.reg .a) 2 8 s
/-- `BIT 2,B` (R310). -/
def execBit2B (s : State) : Result := bitOp 2 (.reg .b) 2 8 s
/-- `BIT 2,C` (R310). -/
def execBit2C (s : State) : Result := bitOp 2 (.reg .c) 2 8 s
/-- `BIT 2,D` (R310). -/
def execBit2D (s : State) : Result := bitOp 2 (.reg .d) 2 8 s
/-- `BIT 2,E` (R310). -/
def execBit2E (s : State) : Result := bitOp 2 (.reg .e) 2 8 s
/-- `BIT 2,H` (R310). -/
def execBit2H (s : State) : Result := bitOp 2 (.reg .h) 2 8 s
/-- `BIT 2,L` (R310). -/
def execBit2L (s : State) : Result := bitOp 2 (.reg .l) 2 8 s
/-- `BIT 2,(HL)` (R310). -/
def execBit2MemHl (s : State) : Result := bitOp 2 .memHl 2 12 s
/-- `BIT 2,A` (R310). -/
def execBit2A (s : State) : Result := bitOp 2 (.reg .a) 2 8 s
/-- `BIT 3,B` (R310). -/
def execBit3B (s : State) : Result := bitOp 3 (.reg .b) 2 8 s
/-- `BIT 3,C` (R310). -/
def execBit3C (s : State) : Result := bitOp 3 (.reg .c) 2 8 s
/-- `BIT 3,D` (R310). -/
def execBit3D (s : State) : Result := bitOp 3 (.reg .d) 2 8 s
/-- `BIT 3,E` (R310). -/
def execBit3E (s : State) : Result := bitOp 3 (.reg .e) 2 8 s
/-- `BIT 3,H` (R310). -/
def execBit3H (s : State) : Result := bitOp 3 (.reg .h) 2 8 s
/-- `BIT 3,L` (R310). -/
def execBit3L (s : State) : Result := bitOp 3 (.reg .l) 2 8 s
/-- `BIT 3,(HL)` (R310). -/
def execBit3MemHl (s : State) : Result := bitOp 3 .memHl 2 12 s
/-- `BIT 3,A` (R310). -/
def execBit3A (s : State) : Result := bitOp 3 (.reg .a) 2 8 s
/-- `BIT 4,B` (R310). -/
def execBit4B (s : State) : Result := bitOp 4 (.reg .b) 2 8 s
/-- `BIT 4,C` (R310). -/
def execBit4C (s : State) : Result := bitOp 4 (.reg .c) 2 8 s
/-- `BIT 4,D` (R310). -/
def execBit4D (s : State) : Result := bitOp 4 (.reg .d) 2 8 s
/-- `BIT 4,E` (R310). -/
def execBit4E (s : State) : Result := bitOp 4 (.reg .e) 2 8 s
/-- `BIT 4,H` (R310). -/
def execBit4H (s : State) : Result := bitOp 4 (.reg .h) 2 8 s
/-- `BIT 4,L` (R310). -/
def execBit4L (s : State) : Result := bitOp 4 (.reg .l) 2 8 s
/-- `BIT 4,(HL)` (R310). -/
def execBit4MemHl (s : State) : Result := bitOp 4 .memHl 2 12 s
/-- `BIT 4,A` (R310). -/
def execBit4A (s : State) : Result := bitOp 4 (.reg .a) 2 8 s
/-- `BIT 5,B` (R310). -/
def execBit5B (s : State) : Result := bitOp 5 (.reg .b) 2 8 s
/-- `BIT 5,C` (R310). -/
def execBit5C (s : State) : Result := bitOp 5 (.reg .c) 2 8 s
/-- `BIT 5,D` (R310). -/
def execBit5D (s : State) : Result := bitOp 5 (.reg .d) 2 8 s
/-- `BIT 5,E` (R310). -/
def execBit5E (s : State) : Result := bitOp 5 (.reg .e) 2 8 s
/-- `BIT 5,H` (R310). -/
def execBit5H (s : State) : Result := bitOp 5 (.reg .h) 2 8 s
/-- `BIT 5,L` (R310). -/
def execBit5L (s : State) : Result := bitOp 5 (.reg .l) 2 8 s
/-- `BIT 5,(HL)` (R310). -/
def execBit5MemHl (s : State) : Result := bitOp 5 .memHl 2 12 s
/-- `BIT 5,A` (R310). -/
def execBit5A (s : State) : Result := bitOp 5 (.reg .a) 2 8 s
/-- `BIT 6,B` (R310). -/
def execBit6B (s : State) : Result := bitOp 6 (.reg .b) 2 8 s
/-- `BIT 6,C` (R310). -/
def execBit6C (s : State) : Result := bitOp 6 (.reg .c) 2 8 s
/-- `BIT 6,D` (R310). -/
def execBit6D (s : State) : Result := bitOp 6 (.reg .d) 2 8 s
/-- `BIT 6,E` (R310). -/
def execBit6E (s : State) : Result := bitOp 6 (.reg .e) 2 8 s
/-- `BIT 6,H` (R310). -/
def execBit6H (s : State) : Result := bitOp 6 (.reg .h) 2 8 s
/-- `BIT 6,L` (R310). -/
def execBit6L (s : State) : Result := bitOp 6 (.reg .l) 2 8 s
/-- `BIT 6,(HL)` (R310). -/
def execBit6MemHl (s : State) : Result := bitOp 6 .memHl 2 12 s
/-- `BIT 6,A` (R310). -/
def execBit6A (s : State) : Result := bitOp 6 (.reg .a) 2 8 s
/-- `BIT 7,B` (R310). -/
def execBit7B (s : State) : Result := bitOp 7 (.reg .b) 2 8 s
/-- `BIT 7,C` (R310). -/
def execBit7C (s : State) : Result := bitOp 7 (.reg .c) 2 8 s
/-- `BIT 7,D` (R310). -/
def execBit7D (s : State) : Result := bitOp 7 (.reg .d) 2 8 s
/-- `BIT 7,E` (R310). -/
def execBit7E (s : State) : Result := bitOp 7 (.reg .e) 2 8 s
/-- `BIT 7,H` (R310). -/
def execBit7H (s : State) : Result := bitOp 7 (.reg .h) 2 8 s
/-- `BIT 7,L` (R310). -/
def execBit7L (s : State) : Result := bitOp 7 (.reg .l) 2 8 s
/-- `BIT 7,(HL)` (R310). -/
def execBit7MemHl (s : State) : Result := bitOp 7 .memHl 2 12 s
/-- `BIT 7,A` (R310). -/
def execBit7A (s : State) : Result := bitOp 7 (.reg .a) 2 8 s

/-- `RES 0,B` (R311). -/
def execRes0B (s : State) : Result := resOp 0 (.reg .b) 2 8 s
/-- `RES 0,C` (R311). -/
def execRes0C (s : State) : Result := resOp 0 (.reg .c) 2 8 s
/-- `RES 0,D` (R311). -/
def execRes0D (s : State) : Result := resOp 0 (.reg .d) 2 8 s
/-- `RES 0,E` (R311). -/
def execRes0E (s : State) : Result := resOp 0 (.reg .e) 2 8 s
/-- `RES 0,H` (R311). -/
def execRes0H (s : State) : Result := resOp 0 (.reg .h) 2 8 s
/-- `RES 0,L` (R311). -/
def execRes0L (s : State) : Result := resOp 0 (.reg .l) 2 8 s
/-- `RES 0,(HL)` (R311). -/
def execRes0MemHl (s : State) : Result := resOp 0 .memHl 2 16 s
/-- `RES 0,A` (R311). -/
def execRes0A (s : State) : Result := resOp 0 (.reg .a) 2 8 s
/-- `RES 1,B` (R311). -/
def execRes1B (s : State) : Result := resOp 1 (.reg .b) 2 8 s
/-- `RES 1,C` (R311). -/
def execRes1C (s : State) : Result := resOp 1 (.reg .c) 2 8 s
/-- `RES 1,D` (R311). -/
def execRes1D (s : State) : Result := resOp 1 (.reg .d) 2 8 s
/-- `RES 1,E` (R311). -/
def execRes1E (s : State) : Result := resOp 1 (.reg .e) 2 8 s
/-- `RES 1,H` (R311). -/
def execRes1H (s : State) : Result := resOp 1 (.reg .h) 2 8 s
/-- `RES 1,L` (R311). -/
def execRes1L (s : State) : Result := resOp 1 (.reg .l) 2 8 s
/-- `RES 1,(HL)` (R311). -/
def execRes1MemHl (s : State) : Result := resOp 1 .memHl 2 16 s
/-- `RES 1,A` (R311). -/
def execRes1A (s : State) : Result := resOp 1 (.reg .a) 2 8 s
/-- `RES 2,B` (R311). -/
def execRes2B (s : State) : Result := resOp 2 (.reg .b) 2 8 s
/-- `RES 2,C` (R311). -/
def execRes2C (s : State) : Result := resOp 2 (.reg .c) 2 8 s
/-- `RES 2,D` (R311). -/
def execRes2D (s : State) : Result := resOp 2 (.reg .d) 2 8 s
/-- `RES 2,E` (R311). -/
def execRes2E (s : State) : Result := resOp 2 (.reg .e) 2 8 s
/-- `RES 2,H` (R311). -/
def execRes2H (s : State) : Result := resOp 2 (.reg .h) 2 8 s
/-- `RES 2,L` (R311). -/
def execRes2L (s : State) : Result := resOp 2 (.reg .l) 2 8 s
/-- `RES 2,(HL)` (R311). -/
def execRes2MemHl (s : State) : Result := resOp 2 .memHl 2 16 s
/-- `RES 2,A` (R311). -/
def execRes2A (s : State) : Result := resOp 2 (.reg .a) 2 8 s
/-- `RES 3,B` (R311). -/
def execRes3B (s : State) : Result := resOp 3 (.reg .b) 2 8 s
/-- `RES 3,C` (R311). -/
def execRes3C (s : State) : Result := resOp 3 (.reg .c) 2 8 s
/-- `RES 3,D` (R311). -/
def execRes3D (s : State) : Result := resOp 3 (.reg .d) 2 8 s
/-- `RES 3,E` (R311). -/
def execRes3E (s : State) : Result := resOp 3 (.reg .e) 2 8 s
/-- `RES 3,H` (R311). -/
def execRes3H (s : State) : Result := resOp 3 (.reg .h) 2 8 s
/-- `RES 3,L` (R311). -/
def execRes3L (s : State) : Result := resOp 3 (.reg .l) 2 8 s
/-- `RES 3,(HL)` (R311). -/
def execRes3MemHl (s : State) : Result := resOp 3 .memHl 2 16 s
/-- `RES 3,A` (R311). -/
def execRes3A (s : State) : Result := resOp 3 (.reg .a) 2 8 s
/-- `RES 4,B` (R311). -/
def execRes4B (s : State) : Result := resOp 4 (.reg .b) 2 8 s
/-- `RES 4,C` (R311). -/
def execRes4C (s : State) : Result := resOp 4 (.reg .c) 2 8 s
/-- `RES 4,D` (R311). -/
def execRes4D (s : State) : Result := resOp 4 (.reg .d) 2 8 s
/-- `RES 4,E` (R311). -/
def execRes4E (s : State) : Result := resOp 4 (.reg .e) 2 8 s
/-- `RES 4,H` (R311). -/
def execRes4H (s : State) : Result := resOp 4 (.reg .h) 2 8 s
/-- `RES 4,L` (R311). -/
def execRes4L (s : State) : Result := resOp 4 (.reg .l) 2 8 s
/-- `RES 4,(HL)` (R311). -/
def execRes4MemHl (s : State) : Result := resOp 4 .memHl 2 16 s
/-- `RES 4,A` (R311). -/
def execRes4A (s : State) : Result := resOp 4 (.reg .a) 2 8 s
/-- `RES 5,B` (R311). -/
def execRes5B (s : State) : Result := resOp 5 (.reg .b) 2 8 s
/-- `RES 5,C` (R311). -/
def execRes5C (s : State) : Result := resOp 5 (.reg .c) 2 8 s
/-- `RES 5,D` (R311). -/
def execRes5D (s : State) : Result := resOp 5 (.reg .d) 2 8 s
/-- `RES 5,E` (R311). -/
def execRes5E (s : State) : Result := resOp 5 (.reg .e) 2 8 s
/-- `RES 5,H` (R311). -/
def execRes5H (s : State) : Result := resOp 5 (.reg .h) 2 8 s
/-- `RES 5,L` (R311). -/
def execRes5L (s : State) : Result := resOp 5 (.reg .l) 2 8 s
/-- `RES 5,(HL)` (R311). -/
def execRes5MemHl (s : State) : Result := resOp 5 .memHl 2 16 s
/-- `RES 5,A` (R311). -/
def execRes5A (s : State) : Result := resOp 5 (.reg .a) 2 8 s
/-- `RES 6,B` (R311). -/
def execRes6B (s : State) : Result := resOp 6 (.reg .b) 2 8 s
/-- `RES 6,C` (R311). -/
def execRes6C (s : State) : Result := resOp 6 (.reg .c) 2 8 s
/-- `RES 6,D` (R311). -/
def execRes6D (s : State) : Result := resOp 6 (.reg .d) 2 8 s
/-- `RES 6,E` (R311). -/
def execRes6E (s : State) : Result := resOp 6 (.reg .e) 2 8 s
/-- `RES 6,H` (R311). -/
def execRes6H (s : State) : Result := resOp 6 (.reg .h) 2 8 s
/-- `RES 6,L` (R311). -/
def execRes6L (s : State) : Result := resOp 6 (.reg .l) 2 8 s
/-- `RES 6,(HL)` (R311). -/
def execRes6MemHl (s : State) : Result := resOp 6 .memHl 2 16 s
/-- `RES 6,A` (R311). -/
def execRes6A (s : State) : Result := resOp 6 (.reg .a) 2 8 s
/-- `RES 7,B` (R311). -/
def execRes7B (s : State) : Result := resOp 7 (.reg .b) 2 8 s
/-- `RES 7,C` (R311). -/
def execRes7C (s : State) : Result := resOp 7 (.reg .c) 2 8 s
/-- `RES 7,D` (R311). -/
def execRes7D (s : State) : Result := resOp 7 (.reg .d) 2 8 s
/-- `RES 7,E` (R311). -/
def execRes7E (s : State) : Result := resOp 7 (.reg .e) 2 8 s
/-- `RES 7,H` (R311). -/
def execRes7H (s : State) : Result := resOp 7 (.reg .h) 2 8 s
/-- `RES 7,L` (R311). -/
def execRes7L (s : State) : Result := resOp 7 (.reg .l) 2 8 s
/-- `RES 7,(HL)` (R311). -/
def execRes7MemHl (s : State) : Result := resOp 7 .memHl 2 16 s
/-- `RES 7,A` (R311). -/
def execRes7A (s : State) : Result := resOp 7 (.reg .a) 2 8 s

/-- `SET 0,B` (R312). -/
def execSet0B (s : State) : Result := setOp 0 (.reg .b) 2 8 s
/-- `SET 0,C` (R312). -/
def execSet0C (s : State) : Result := setOp 0 (.reg .c) 2 8 s
/-- `SET 0,D` (R312). -/
def execSet0D (s : State) : Result := setOp 0 (.reg .d) 2 8 s
/-- `SET 0,E` (R312). -/
def execSet0E (s : State) : Result := setOp 0 (.reg .e) 2 8 s
/-- `SET 0,H` (R312). -/
def execSet0H (s : State) : Result := setOp 0 (.reg .h) 2 8 s
/-- `SET 0,L` (R312). -/
def execSet0L (s : State) : Result := setOp 0 (.reg .l) 2 8 s
/-- `SET 0,(HL)` (R312). -/
def execSet0MemHl (s : State) : Result := setOp 0 .memHl 2 16 s
/-- `SET 0,A` (R312). -/
def execSet0A (s : State) : Result := setOp 0 (.reg .a) 2 8 s
/-- `SET 1,B` (R312). -/
def execSet1B (s : State) : Result := setOp 1 (.reg .b) 2 8 s
/-- `SET 1,C` (R312). -/
def execSet1C (s : State) : Result := setOp 1 (.reg .c) 2 8 s
/-- `SET 1,D` (R312). -/
def execSet1D (s : State) : Result := setOp 1 (.reg .d) 2 8 s
/-- `SET 1,E` (R312). -/
def execSet1E (s : State) : Result := setOp 1 (.reg .e) 2 8 s
/-- `SET 1,H` (R312). -/
def execSet1H (s : State) : Result := setOp 1 (.reg .h) 2 8 s
/-- `SET 1,L` (R312). -/
def execSet1L (s : State) : Result := setOp 1 (.reg .l) 2 8 s
/-- `SET 1,(HL)` (R312). -/
def execSet1MemHl (s : State) : Result := setOp 1 .memHl 2 16 s
/-- `SET 1,A` (R312). -/
def execSet1A (s : State) : Result := setOp 1 (.reg .a) 2 8 s
/-- `SET 2,B` (R312). -/
def execSet2B (s : State) : Result := setOp 2 (.reg .b) 2 8 s
/-- `SET 2,C` (R312). -/
def execSet2C (s : State) : Result := setOp 2 (.reg .c) 2 8 s
/-- `SET 2,D` (R312). -/
def execSet2D (s : State) : Result := setOp 2 (.reg .d) 2 8 s
/-- `SET 2,E` (R312). -/
def execSet2E (s : State) : Result := setOp 2 (.reg .e) 2 8 s
/-- `SET 2,H` (R312). -/
def execSet2H (s : State) : Result := setOp 2 (.reg .h) 2 8 s
/-- `SET 2,L` (R312). -/
def execSet2L (s : State) : Result := setOp 2 (.reg .l) 2 8 s
/-- `SET 2,(HL)` (R312). -/
def execSet2MemHl (s : State) : Result := setOp 2 .memHl 2 16 s
/-- `SET 2,A` (R312). -/
def execSet2A (s : State) : Result := setOp 2 (.reg .a) 2 8 s
/-- `SET 3,B` (R312). -/
def execSet3B (s : State) : Result := setOp 3 (.reg .b) 2 8 s
/-- `SET 3,C` (R312). -/
def execSet3C (s : State) : Result := setOp 3 (.reg .c) 2 8 s
/-- `SET 3,D` (R312). -/
def execSet3D (s : State) : Result := setOp 3 (.reg .d) 2 8 s
/-- `SET 3,E` (R312). -/
def execSet3E (s : State) : Result := setOp 3 (.reg .e) 2 8 s
/-- `SET 3,H` (R312). -/
def execSet3H (s : State) : Result := setOp 3 (.reg .h) 2 8 s
/-- `SET 3,L` (R312). -/
def execSet3L (s : State) : Result := setOp 3 (.reg .l) 2 8 s
/-- `SET 3,(HL)` (R312). -/
def execSet3MemHl (s : State) : Result := setOp 3 .memHl 2 16 s
/-- `SET 3,A` (R312). -/
def execSet3A (s : State) : Result := setOp 3 (.reg .a) 2 8 s
/-- `SET 4,B` (R312). -/
def execSet4B (s : State) : Result := setOp 4 (.reg .b) 2 8 s
/-- `SET 4,C` (R312). -/
def execSet4C (s : State) : Result := setOp 4 (.reg .c) 2 8 s
/-- `SET 4,D` (R312). -/
def execSet4D (s : State) : Result := setOp 4 (.reg .d) 2 8 s
/-- `SET 4,E` (R312). -/
def execSet4E (s : State) : Result := setOp 4 (.reg .e) 2 8 s
/-- `SET 4,H` (R312). -/
def execSet4H (s : State) : Result := setOp 4 (.reg .h) 2 8 s
/-- `SET 4,L` (R312). -/
def execSet4L (s : State) : Result := setOp 4 (.reg .l) 2 8 s
/-- `SET 4,(HL)` (R312). -/
def execSet4MemHl (s : State) : Result := setOp 4 .memHl 2 16 s
/-- `SET 4,A` (R312). -/
def execSet4A (s : State) : Result := setOp 4 (.reg .a) 2 8 s
/-- `SET 5,B` (R312). -/
def execSet5B (s : State) : Result := setOp 5 (.reg .b) 2 8 s
/-- `SET 5,C` (R312). -/
def execSet5C (s : State) : Result := setOp 5 (.reg .c) 2 8 s
/-- `SET 5,D` (R312). -/
def execSet5D (s : State) : Result := setOp 5 (.reg .d) 2 8 s
/-- `SET 5,E` (R312). -/
def execSet5E (s : State) : Result := setOp 5 (.reg .e) 2 8 s
/-- `SET 5,H` (R312). -/
def execSet5H (s : State) : Result := setOp 5 (.reg .h) 2 8 s
/-- `SET 5,L` (R312). -/
def execSet5L (s : State) : Result := setOp 5 (.reg .l) 2 8 s
/-- `SET 5,(HL)` (R312). -/
def execSet5MemHl (s : State) : Result := setOp 5 .memHl 2 16 s
/-- `SET 5,A` (R312). -/
def execSet5A (s : State) : Result := setOp 5 (.reg .a) 2 8 s
/-- `SET 6,B` (R312). -/
def execSet6B (s : State) : Result := setOp 6 (.reg .b) 2 8 s
/-- `SET 6,C` (R312). -/
def execSet6C (s : State) : Result := setOp 6 (.reg .c) 2 8 s
/-- `SET 6,D` (R312). -/
def execSet6D (s : State) : Result := setOp 6 (.reg .d) 2 8 s
/-- `SET 6,E` (R312). -/
def execSet6E (s : State) : Result := setOp 6 (.reg .e) 2 8 s
/-- `SET 6,H` (R312). -/
def execSet6H (s : State) : Result := setOp 6 (.reg .h) 2 8 s
/-- `SET 6,L` (R312). -/
def execSet6L (s : State) : Result := setOp 6 (.reg .l) 2 8 s
/-- `SET 6,(HL)` (R312). -/
def execSet6MemHl (s : State) : Result := setOp 6 .memHl 2 16 s
/-- `SET 6,A` (R312). -/
def execSet6A (s : State) : Result := setOp 6 (.reg .a) 2 8 s
/-- `SET 7,B` (R312). -/
def execSet7B (s : State) : Result := setOp 7 (.reg .b) 2 8 s
/-- `SET 7,C` (R312). -/
def execSet7C (s : State) : Result := setOp 7 (.reg .c) 2 8 s
/-- `SET 7,D` (R312). -/
def execSet7D (s : State) : Result := setOp 7 (.reg .d) 2 8 s
/-- `SET 7,E` (R312). -/
def execSet7E (s : State) : Result := setOp 7 (.reg .e) 2 8 s
/-- `SET 7,H` (R312). -/
def execSet7H (s : State) : Result := setOp 7 (.reg .h) 2 8 s
/-- `SET 7,L` (R312). -/
def execSet7L (s : State) : Result := setOp 7 (.reg .l) 2 8 s
/-- `SET 7,(HL)` (R312). -/
def execSet7MemHl (s : State) : Result := setOp 7 .memHl 2 16 s
/-- `SET 7,A` (R312). -/
def execSet7A (s : State) : Result := setOp 7 (.reg .a) 2 8 s

end Sys2Proof.Machine
end

