-- ==== Sys2Proof/Machine/Alu8.lean ====
section
/-! DEFINITION. 8-bit arithmetic and logic (spec/42_alu8.md, R220 to R237). -/

namespace Sys2Proof.Machine

/-- An accumulator operation on x: the value to A, the flags to F (R220 to R228). -/
def applyAlu (op : Alu) (x : Byte) (s : State) : State :=
  let r := aluResult op s.a x s.flagC
  { s with a := r.value }.flagsFrom r

/-- The register and (HL) forms: the operand is read before A is written (R220). -/
def aluOp (op : Alu) (x : R8) (len cycles : Nat) (s : State) : Result :=
  retire len cycles (fun s => let (v, s) := readR8 x s; applyAlu op v s) s

/-- The immediate forms (R220). -/
def aluD8Op (op : Alu) (n : Byte) (len cycles : Nat) (s : State) : Result := retire len cycles (applyAlu op n) s

/-- Read an 8-bit operand, write back the computed value, and set the flags from it, whatever the write then does: INC and DEC
(R229 to R232), and the CB page's rotates and shifts (R290). -/
def modifyR8 (x : R8) (f : Byte → Bool → Flagged) (s : State) : State :=
  let (v, s) := readR8 x s
  let r := f v s.flagC
  (writeR8 x r.value s).flagsFrom r

/-- `INC r`, `INC (HL)` (R229, R230). -/
def incOp (x : R8) (len cycles : Nat) (s : State) : Result := retire len cycles (modifyR8 x inc8) s

/-- `DEC r`, `DEC (HL)` (R231, R232). -/
def decOp (x : R8) (len cycles : Nat) (s : State) : Result := retire len cycles (modifyR8 x dec8) s


/-- `ADD A,B` (R221). -/
def execAddAB (s : State) : Result := aluOp .add (.reg .b) 1 4 s
/-- `ADD A,C` (R221). -/
def execAddAC (s : State) : Result := aluOp .add (.reg .c) 1 4 s
/-- `ADD A,D` (R221). -/
def execAddAD (s : State) : Result := aluOp .add (.reg .d) 1 4 s
/-- `ADD A,E` (R221). -/
def execAddAE (s : State) : Result := aluOp .add (.reg .e) 1 4 s
/-- `ADD A,H` (R221). -/
def execAddAH (s : State) : Result := aluOp .add (.reg .h) 1 4 s
/-- `ADD A,L` (R221). -/
def execAddAL (s : State) : Result := aluOp .add (.reg .l) 1 4 s
/-- `ADD A,(HL)` (R221). -/
def execAddAMemHl (s : State) : Result := aluOp .add .memHl 1 8 s
/-- `ADD A,A` (R221). -/
def execAddAA (s : State) : Result := aluOp .add (.reg .a) 1 4 s
/-- `ADC A,B` (R222). -/
def execAdcAB (s : State) : Result := aluOp .adc (.reg .b) 1 4 s
/-- `ADC A,C` (R222). -/
def execAdcAC (s : State) : Result := aluOp .adc (.reg .c) 1 4 s
/-- `ADC A,D` (R222). -/
def execAdcAD (s : State) : Result := aluOp .adc (.reg .d) 1 4 s
/-- `ADC A,E` (R222). -/
def execAdcAE (s : State) : Result := aluOp .adc (.reg .e) 1 4 s
/-- `ADC A,H` (R222). -/
def execAdcAH (s : State) : Result := aluOp .adc (.reg .h) 1 4 s
/-- `ADC A,L` (R222). -/
def execAdcAL (s : State) : Result := aluOp .adc (.reg .l) 1 4 s
/-- `ADC A,(HL)` (R222). -/
def execAdcAMemHl (s : State) : Result := aluOp .adc .memHl 1 8 s
/-- `ADC A,A` (R222). -/
def execAdcAA (s : State) : Result := aluOp .adc (.reg .a) 1 4 s
/-- `SUB B` (R223). -/
def execSubB (s : State) : Result := aluOp .sub (.reg .b) 1 4 s
/-- `SUB C` (R223). -/
def execSubC (s : State) : Result := aluOp .sub (.reg .c) 1 4 s
/-- `SUB D` (R223). -/
def execSubD (s : State) : Result := aluOp .sub (.reg .d) 1 4 s
/-- `SUB E` (R223). -/
def execSubE (s : State) : Result := aluOp .sub (.reg .e) 1 4 s
/-- `SUB H` (R223). -/
def execSubH (s : State) : Result := aluOp .sub (.reg .h) 1 4 s
/-- `SUB L` (R223). -/
def execSubL (s : State) : Result := aluOp .sub (.reg .l) 1 4 s
/-- `SUB (HL)` (R223). -/
def execSubMemHl (s : State) : Result := aluOp .sub .memHl 1 8 s
/-- `SUB A` (R223). -/
def execSubA (s : State) : Result := aluOp .sub (.reg .a) 1 4 s
/-- `SBC A,B` (R224). -/
def execSbcAB (s : State) : Result := aluOp .sbc (.reg .b) 1 4 s
/-- `SBC A,C` (R224). -/
def execSbcAC (s : State) : Result := aluOp .sbc (.reg .c) 1 4 s
/-- `SBC A,D` (R224). -/
def execSbcAD (s : State) : Result := aluOp .sbc (.reg .d) 1 4 s
/-- `SBC A,E` (R224). -/
def execSbcAE (s : State) : Result := aluOp .sbc (.reg .e) 1 4 s
/-- `SBC A,H` (R224). -/
def execSbcAH (s : State) : Result := aluOp .sbc (.reg .h) 1 4 s
/-- `SBC A,L` (R224). -/
def execSbcAL (s : State) : Result := aluOp .sbc (.reg .l) 1 4 s
/-- `SBC A,(HL)` (R224). -/
def execSbcAMemHl (s : State) : Result := aluOp .sbc .memHl 1 8 s
/-- `SBC A,A` (R224). -/
def execSbcAA (s : State) : Result := aluOp .sbc (.reg .a) 1 4 s
/-- `AND B` (R225). -/
def execAndB (s : State) : Result := aluOp .and (.reg .b) 1 4 s
/-- `AND C` (R225). -/
def execAndC (s : State) : Result := aluOp .and (.reg .c) 1 4 s
/-- `AND D` (R225). -/
def execAndD (s : State) : Result := aluOp .and (.reg .d) 1 4 s
/-- `AND E` (R225). -/
def execAndE (s : State) : Result := aluOp .and (.reg .e) 1 4 s
/-- `AND H` (R225). -/
def execAndH (s : State) : Result := aluOp .and (.reg .h) 1 4 s
/-- `AND L` (R225). -/
def execAndL (s : State) : Result := aluOp .and (.reg .l) 1 4 s
/-- `AND (HL)` (R225). -/
def execAndMemHl (s : State) : Result := aluOp .and .memHl 1 8 s
/-- `AND A` (R225). -/
def execAndA (s : State) : Result := aluOp .and (.reg .a) 1 4 s
/-- `XOR B` (R226). -/
def execXorB (s : State) : Result := aluOp .xor (.reg .b) 1 4 s
/-- `XOR C` (R226). -/
def execXorC (s : State) : Result := aluOp .xor (.reg .c) 1 4 s
/-- `XOR D` (R226). -/
def execXorD (s : State) : Result := aluOp .xor (.reg .d) 1 4 s
/-- `XOR E` (R226). -/
def execXorE (s : State) : Result := aluOp .xor (.reg .e) 1 4 s
/-- `XOR H` (R226). -/
def execXorH (s : State) : Result := aluOp .xor (.reg .h) 1 4 s
/-- `XOR L` (R226). -/
def execXorL (s : State) : Result := aluOp .xor (.reg .l) 1 4 s
/-- `XOR (HL)` (R226). -/
def execXorMemHl (s : State) : Result := aluOp .xor .memHl 1 8 s
/-- `XOR A` (R226). -/
def execXorA (s : State) : Result := aluOp .xor (.reg .a) 1 4 s
/-- `OR B` (R227). -/
def execOrB (s : State) : Result := aluOp .or (.reg .b) 1 4 s
/-- `OR C` (R227). -/
def execOrC (s : State) : Result := aluOp .or (.reg .c) 1 4 s
/-- `OR D` (R227). -/
def execOrD (s : State) : Result := aluOp .or (.reg .d) 1 4 s
/-- `OR E` (R227). -/
def execOrE (s : State) : Result := aluOp .or (.reg .e) 1 4 s
/-- `OR H` (R227). -/
def execOrH (s : State) : Result := aluOp .or (.reg .h) 1 4 s
/-- `OR L` (R227). -/
def execOrL (s : State) : Result := aluOp .or (.reg .l) 1 4 s
/-- `OR (HL)` (R227). -/
def execOrMemHl (s : State) : Result := aluOp .or .memHl 1 8 s
/-- `OR A` (R227). -/
def execOrA (s : State) : Result := aluOp .or (.reg .a) 1 4 s
/-- `CP B` (R228). -/
def execCpB (s : State) : Result := aluOp .cp (.reg .b) 1 4 s
/-- `CP C` (R228). -/
def execCpC (s : State) : Result := aluOp .cp (.reg .c) 1 4 s
/-- `CP D` (R228). -/
def execCpD (s : State) : Result := aluOp .cp (.reg .d) 1 4 s
/-- `CP E` (R228). -/
def execCpE (s : State) : Result := aluOp .cp (.reg .e) 1 4 s
/-- `CP H` (R228). -/
def execCpH (s : State) : Result := aluOp .cp (.reg .h) 1 4 s
/-- `CP L` (R228). -/
def execCpL (s : State) : Result := aluOp .cp (.reg .l) 1 4 s
/-- `CP (HL)` (R228). -/
def execCpMemHl (s : State) : Result := aluOp .cp .memHl 1 8 s
/-- `CP A` (R228). -/
def execCpA (s : State) : Result := aluOp .cp (.reg .a) 1 4 s

/-- `ADD A,d8` (R221). -/
def execAddAD8 (d8 : Byte) (s : State) : Result := aluD8Op .add d8 2 8 s
/-- `ADC A,d8` (R222). -/
def execAdcAD8 (d8 : Byte) (s : State) : Result := aluD8Op .adc d8 2 8 s
/-- `SUB d8` (R223). -/
def execSubD8 (d8 : Byte) (s : State) : Result := aluD8Op .sub d8 2 8 s
/-- `SBC A,d8` (R224). -/
def execSbcAD8 (d8 : Byte) (s : State) : Result := aluD8Op .sbc d8 2 8 s
/-- `AND d8` (R225). -/
def execAndD8 (d8 : Byte) (s : State) : Result := aluD8Op .and d8 2 8 s
/-- `XOR d8` (R226). -/
def execXorD8 (d8 : Byte) (s : State) : Result := aluD8Op .xor d8 2 8 s
/-- `OR d8` (R227). -/
def execOrD8 (d8 : Byte) (s : State) : Result := aluD8Op .or d8 2 8 s
/-- `CP d8` (R228). -/
def execCpD8 (d8 : Byte) (s : State) : Result := aluD8Op .cp d8 2 8 s

/-- `INC B` (R229). -/
def execIncB (s : State) : Result := incOp (.reg .b) 1 4 s
/-- `INC C` (R229). -/
def execIncC (s : State) : Result := incOp (.reg .c) 1 4 s
/-- `INC D` (R229). -/
def execIncD (s : State) : Result := incOp (.reg .d) 1 4 s
/-- `INC E` (R229). -/
def execIncE (s : State) : Result := incOp (.reg .e) 1 4 s
/-- `INC H` (R229). -/
def execIncH (s : State) : Result := incOp (.reg .h) 1 4 s
/-- `INC L` (R229). -/
def execIncL (s : State) : Result := incOp (.reg .l) 1 4 s
/-- `INC (HL)` (R230). -/
def execIncMemHl (s : State) : Result := incOp .memHl 1 12 s
/-- `INC A` (R229). -/
def execIncA (s : State) : Result := incOp (.reg .a) 1 4 s

/-- `DEC B` (R231). -/
def execDecB (s : State) : Result := decOp (.reg .b) 1 4 s
/-- `DEC C` (R231). -/
def execDecC (s : State) : Result := decOp (.reg .c) 1 4 s
/-- `DEC D` (R231). -/
def execDecD (s : State) : Result := decOp (.reg .d) 1 4 s
/-- `DEC E` (R231). -/
def execDecE (s : State) : Result := decOp (.reg .e) 1 4 s
/-- `DEC H` (R231). -/
def execDecH (s : State) : Result := decOp (.reg .h) 1 4 s
/-- `DEC L` (R231). -/
def execDecL (s : State) : Result := decOp (.reg .l) 1 4 s
/-- `DEC (HL)` (R232). -/
def execDecMemHl (s : State) : Result := decOp .memHl 1 12 s
/-- `DEC A` (R231). -/
def execDecA (s : State) : Result := decOp (.reg .a) 1 4 s

/-- `DAA` (R233). -/
def execDaa (s : State) : Result :=
  retire 1 4 (fun s => let r := daa8 s.a s.flagN s.flagH s.flagC; { s with a := r.value }.flagsFrom r) s
/-- `CPL`: Z and C unchanged (R234). -/
def execCpl (s : State) : Result :=
  retire 1 4 (fun s => { s with a := s.a ^^^ 0xFF }.setFlags s.flagZ true true s.flagC) s
/-- `SCF`: Z unchanged (R235). -/
def execScf (s : State) : Result := retire 1 4 (fun s => s.setFlags s.flagZ false false true) s
/-- `CCF`: Z unchanged, C inverted (R236). -/
def execCcf (s : State) : Result := retire 1 4 (fun s => s.setFlags s.flagZ false false (!s.flagC)) s

end Sys2Proof.Machine
end

