-- ==== Sys2Proof/Machine/CbRotate.lean ====
section
/-! DEFINITION. The CB page's rotates, shifts and SWAP (spec/45_cb_rotate_shift.md, R290 to R298). -/

namespace Sys2Proof.Machine

/-- A CB-page rotate or shift: the operand is read once and the result written back to the same place (R290). -/
def cbRotOp (op : Rot) (x : R8) (len cycles : Nat) (s : State) : Result :=
  retire len cycles (modifyR8 x (rotResult op)) s


/-- `RLC B` (R291). -/
def execCbRlcB (s : State) : Result := cbRotOp .rlc (.reg .b) 2 8 s
/-- `RLC C` (R291). -/
def execCbRlcC (s : State) : Result := cbRotOp .rlc (.reg .c) 2 8 s
/-- `RLC D` (R291). -/
def execCbRlcD (s : State) : Result := cbRotOp .rlc (.reg .d) 2 8 s
/-- `RLC E` (R291). -/
def execCbRlcE (s : State) : Result := cbRotOp .rlc (.reg .e) 2 8 s
/-- `RLC H` (R291). -/
def execCbRlcH (s : State) : Result := cbRotOp .rlc (.reg .h) 2 8 s
/-- `RLC L` (R291). -/
def execCbRlcL (s : State) : Result := cbRotOp .rlc (.reg .l) 2 8 s
/-- `RLC (HL)` (R291). -/
def execCbRlcMemHl (s : State) : Result := cbRotOp .rlc .memHl 2 16 s
/-- `RLC A` (R291). -/
def execCbRlcA (s : State) : Result := cbRotOp .rlc (.reg .a) 2 8 s
/-- `RRC B` (R292). -/
def execCbRrcB (s : State) : Result := cbRotOp .rrc (.reg .b) 2 8 s
/-- `RRC C` (R292). -/
def execCbRrcC (s : State) : Result := cbRotOp .rrc (.reg .c) 2 8 s
/-- `RRC D` (R292). -/
def execCbRrcD (s : State) : Result := cbRotOp .rrc (.reg .d) 2 8 s
/-- `RRC E` (R292). -/
def execCbRrcE (s : State) : Result := cbRotOp .rrc (.reg .e) 2 8 s
/-- `RRC H` (R292). -/
def execCbRrcH (s : State) : Result := cbRotOp .rrc (.reg .h) 2 8 s
/-- `RRC L` (R292). -/
def execCbRrcL (s : State) : Result := cbRotOp .rrc (.reg .l) 2 8 s
/-- `RRC (HL)` (R292). -/
def execCbRrcMemHl (s : State) : Result := cbRotOp .rrc .memHl 2 16 s
/-- `RRC A` (R292). -/
def execCbRrcA (s : State) : Result := cbRotOp .rrc (.reg .a) 2 8 s
/-- `RL B` (R293). -/
def execCbRlB (s : State) : Result := cbRotOp .rl (.reg .b) 2 8 s
/-- `RL C` (R293). -/
def execCbRlC (s : State) : Result := cbRotOp .rl (.reg .c) 2 8 s
/-- `RL D` (R293). -/
def execCbRlD (s : State) : Result := cbRotOp .rl (.reg .d) 2 8 s
/-- `RL E` (R293). -/
def execCbRlE (s : State) : Result := cbRotOp .rl (.reg .e) 2 8 s
/-- `RL H` (R293). -/
def execCbRlH (s : State) : Result := cbRotOp .rl (.reg .h) 2 8 s
/-- `RL L` (R293). -/
def execCbRlL (s : State) : Result := cbRotOp .rl (.reg .l) 2 8 s
/-- `RL (HL)` (R293). -/
def execCbRlMemHl (s : State) : Result := cbRotOp .rl .memHl 2 16 s
/-- `RL A` (R293). -/
def execCbRlA (s : State) : Result := cbRotOp .rl (.reg .a) 2 8 s
/-- `RR B` (R294). -/
def execCbRrB (s : State) : Result := cbRotOp .rr (.reg .b) 2 8 s
/-- `RR C` (R294). -/
def execCbRrC (s : State) : Result := cbRotOp .rr (.reg .c) 2 8 s
/-- `RR D` (R294). -/
def execCbRrD (s : State) : Result := cbRotOp .rr (.reg .d) 2 8 s
/-- `RR E` (R294). -/
def execCbRrE (s : State) : Result := cbRotOp .rr (.reg .e) 2 8 s
/-- `RR H` (R294). -/
def execCbRrH (s : State) : Result := cbRotOp .rr (.reg .h) 2 8 s
/-- `RR L` (R294). -/
def execCbRrL (s : State) : Result := cbRotOp .rr (.reg .l) 2 8 s
/-- `RR (HL)` (R294). -/
def execCbRrMemHl (s : State) : Result := cbRotOp .rr .memHl 2 16 s
/-- `RR A` (R294). -/
def execCbRrA (s : State) : Result := cbRotOp .rr (.reg .a) 2 8 s
/-- `SLA B` (R295). -/
def execCbSlaB (s : State) : Result := cbRotOp .sla (.reg .b) 2 8 s
/-- `SLA C` (R295). -/
def execCbSlaC (s : State) : Result := cbRotOp .sla (.reg .c) 2 8 s
/-- `SLA D` (R295). -/
def execCbSlaD (s : State) : Result := cbRotOp .sla (.reg .d) 2 8 s
/-- `SLA E` (R295). -/
def execCbSlaE (s : State) : Result := cbRotOp .sla (.reg .e) 2 8 s
/-- `SLA H` (R295). -/
def execCbSlaH (s : State) : Result := cbRotOp .sla (.reg .h) 2 8 s
/-- `SLA L` (R295). -/
def execCbSlaL (s : State) : Result := cbRotOp .sla (.reg .l) 2 8 s
/-- `SLA (HL)` (R295). -/
def execCbSlaMemHl (s : State) : Result := cbRotOp .sla .memHl 2 16 s
/-- `SLA A` (R295). -/
def execCbSlaA (s : State) : Result := cbRotOp .sla (.reg .a) 2 8 s
/-- `SRA B` (R296). -/
def execCbSraB (s : State) : Result := cbRotOp .sra (.reg .b) 2 8 s
/-- `SRA C` (R296). -/
def execCbSraC (s : State) : Result := cbRotOp .sra (.reg .c) 2 8 s
/-- `SRA D` (R296). -/
def execCbSraD (s : State) : Result := cbRotOp .sra (.reg .d) 2 8 s
/-- `SRA E` (R296). -/
def execCbSraE (s : State) : Result := cbRotOp .sra (.reg .e) 2 8 s
/-- `SRA H` (R296). -/
def execCbSraH (s : State) : Result := cbRotOp .sra (.reg .h) 2 8 s
/-- `SRA L` (R296). -/
def execCbSraL (s : State) : Result := cbRotOp .sra (.reg .l) 2 8 s
/-- `SRA (HL)` (R296). -/
def execCbSraMemHl (s : State) : Result := cbRotOp .sra .memHl 2 16 s
/-- `SRA A` (R296). -/
def execCbSraA (s : State) : Result := cbRotOp .sra (.reg .a) 2 8 s
/-- `SWAP B` (R297). -/
def execCbSwapB (s : State) : Result := cbRotOp .swap (.reg .b) 2 8 s
/-- `SWAP C` (R297). -/
def execCbSwapC (s : State) : Result := cbRotOp .swap (.reg .c) 2 8 s
/-- `SWAP D` (R297). -/
def execCbSwapD (s : State) : Result := cbRotOp .swap (.reg .d) 2 8 s
/-- `SWAP E` (R297). -/
def execCbSwapE (s : State) : Result := cbRotOp .swap (.reg .e) 2 8 s
/-- `SWAP H` (R297). -/
def execCbSwapH (s : State) : Result := cbRotOp .swap (.reg .h) 2 8 s
/-- `SWAP L` (R297). -/
def execCbSwapL (s : State) : Result := cbRotOp .swap (.reg .l) 2 8 s
/-- `SWAP (HL)` (R297). -/
def execCbSwapMemHl (s : State) : Result := cbRotOp .swap .memHl 2 16 s
/-- `SWAP A` (R297). -/
def execCbSwapA (s : State) : Result := cbRotOp .swap (.reg .a) 2 8 s
/-- `SRL B` (R298). -/
def execCbSrlB (s : State) : Result := cbRotOp .srl (.reg .b) 2 8 s
/-- `SRL C` (R298). -/
def execCbSrlC (s : State) : Result := cbRotOp .srl (.reg .c) 2 8 s
/-- `SRL D` (R298). -/
def execCbSrlD (s : State) : Result := cbRotOp .srl (.reg .d) 2 8 s
/-- `SRL E` (R298). -/
def execCbSrlE (s : State) : Result := cbRotOp .srl (.reg .e) 2 8 s
/-- `SRL H` (R298). -/
def execCbSrlH (s : State) : Result := cbRotOp .srl (.reg .h) 2 8 s
/-- `SRL L` (R298). -/
def execCbSrlL (s : State) : Result := cbRotOp .srl (.reg .l) 2 8 s
/-- `SRL (HL)` (R298). -/
def execCbSrlMemHl (s : State) : Result := cbRotOp .srl .memHl 2 16 s
/-- `SRL A` (R298). -/
def execCbSrlA (s : State) : Result := cbRotOp .srl (.reg .a) 2 8 s

end Sys2Proof.Machine
end

