-- ==== Sys2Proof/Machine/Prefix.lean ====
section
/-! DEFINITION. The prefix row 0xCB as a row of its own (R131): fetch the next byte and dispatch on it, by the fields of R133.
The decoder reads the two bytes at once and goes straight to the second page's row (log 11). -/

namespace Sys2Proof.Machine

/-- The 8-bit operand of a code (R124). -/
def r8OfCode (k : Nat) : R8 :=
  match k with
  | 0 => .reg .b
  | 1 => .reg .c
  | 2 => .reg .d
  | 3 => .reg .e
  | 4 => .reg .h
  | 5 => .reg .l
  | 6 => .memHl
  | _ => .reg .a

/-- The rotate or shift of a code (R128). -/
def rotOfCode (k : Nat) : Rot :=
  match k with
  | 0 => .rlc
  | 1 => .rrc
  | 2 => .rl
  | 3 => .rr
  | 4 => .sla
  | 5 => .sra
  | 6 => .swap
  | _ => .srl

/-- The CB page's rule of a second byte `op2 = (x << 6) | (y << 3) | z`, PC at the prefix: 4 cycles of the prefix plus 4, or 12
on (HL), or 8 for BIT on (HL) (R133, R491). -/
def cbRule (op2 : Byte) (s : State) : Result :=
  let x := op2.toNat / 64
  let y := op2.toNat / 8 % 8
  let operand := r8OfCode (op2.toNat % 8)
  let b : Fin 8 := ⟨y, Nat.mod_lt _ (by decide)⟩
  let inner (onMemory : Nat) : Nat := if operand = .memHl then onMemory else 4
  if x = 0 then cbRotOp (rotOfCode y) operand 2 (4 + inner 12) s
  else if x = 1 then bitOp b operand 2 (4 + inner 8) s
  else if x = 2 then resOp b operand 2 (4 + inner 12) s
  else setOp b operand 2 (4 + inner 12) s

/-- `PREFIX CB` (R131). -/
def execPrefixCb (s : State) : Result :=
  let (op2, s) := readByte (s.pc + 1) s
  cbRule op2 s

end Sys2Proof.Machine
end

