-- ==== Sys2Proof/Machine/RotateA.lean ====
section
/-! DEFINITION. The one-byte accumulator rotates, which always clear Z (spec/44_rotate_a.md, R280 to R283). -/

namespace Sys2Proof.Machine

/-- Rotate A: Z, N, H 0, C the bit shifted out. -/
def rotateA (op : Rot) (s : State) : State :=
  { s with a := rotValue op s.a s.flagC }.setFlags false false false (rotOut op s.a)

/-- `RLCA` (R280). -/
def execRlca (s : State) : Result := retire 1 4 (rotateA .rlc) s
/-- `RLA` (R281). -/
def execRla (s : State) : Result := retire 1 4 (rotateA .rl) s
/-- `RRCA` (R282). -/
def execRrca (s : State) : Result := retire 1 4 (rotateA .rrc) s
/-- `RRA` (R283). -/
def execRra (s : State) : Result := retire 1 4 (rotateA .rr) s

end Sys2Proof.Machine
end

