-- ==== Sys2Proof/Machine/Fetch.lean ====
section
/-! DEFINITION. Fetching an instruction's bytes (R121, R122, R131), and placing bytes where a fetch reads them. -/

namespace Sys2Proof.Machine

/-- `n` bytes read one after another from an address on, mod 2^16 (R27, R121). -/
def fetchBytes : Nat → Word → State → List Byte × State
  | 0, _, s => ([], s)
  | n + 1, a, s =>
    let (v, s) := readByte a s
    let (vs, s) := fetchBytes n (a + 1) s
    (v :: vs, s)

/-- The instruction at PC. Its bytes are read in ascending order, each by an ordinary bus read (R101); PC itself moves when the
instruction runs (log 10). -/
def fetchInstr (s : State) : Instr × State :=
  let (b, s1) := readByte s.pc s
  match slotOf b with
  | .op i => (i, s1)
  | .byte f =>
    let (n, s2) := readByte (s.pc + 1) s1
    (f n, s2)
  | .word f =>
    let (lo, s2) := readByte (s.pc + 1) s1
    let (hi, s3) := readByte (s.pc + 2) s2
    (f (wordOf hi lo), s3)
  | .second =>
    let (op2, s2) := readByte (s.pc + 1) s1
    (cbInstr op2, s2)

/-! ## Loading from outside (log 5) -/

/-- Whether an address has storage or an image behind it that may hold any byte: the header bytes the loader checks may not
(R102). -/
def placeable (a : Word) : Bool :=
  match regionOf a with
  | .external | .unusable => false
  | .rom => !checkedOffset a.toNat
  | .overlay | .video | .work | .echo | .oam | .io | .high | .enable => true

/-- Put a byte into the storage or image a read of the address answers from. -/
def State.placeByte (s : State) (a : Word) (v : Byte) : State :=
  match regionOf a with
  | .overlay =>
    if s.bootUnmap then { s with cart := Image.insert s.cart a.toNat v }
    else { s with bootRom := Image.insert s.bootRom a.toNat v }
  | .rom => if checkedOffset a.toNat then s else { s with cart := Image.insert s.cart a.toNat v }
  | .external | .unusable => s
  | .echo => s.poke (a.toNat - 0x2000) v
  | .video | .work | .oam | .io | .high | .enable => s.poke a.toNat v

/-- Put bytes at consecutive addresses. -/
def State.placeBytes : List Byte → Word → State → State
  | [], _, s => s
  | v :: vs, a, s => State.placeBytes vs (a + 1) (s.placeByte a v)

/-- The state in which the very next step runs the instruction of these three bytes: they stand at PC, or at 0xC000 if PC has
nothing behind it that may hold them; the CPU is RUNNING and no interrupt goes before (log 5). -/
def State.withFetched (bytes : List Byte) (s : State) : State :=
  let holds := placeable s.pc && placeable (s.pc + 1) && placeable (s.pc + 2)
  let s := { s with pc := if holds then s.pc else 0xC000, runState := .running, fault := none }
  let s := State.placeBytes bytes s.pc s
  if s.interrupt.isSome then { s with ime := false } else s

end Sys2Proof.Machine
end

