-- ==== Sys2Proof/Machine/Lcd.lean ====
section
/-! DEFINITION. The LCD controller (R440 to R446 of spec/60_exceptions.md): the scanline schedule, tiles, background, frame. -/

namespace Sys2Proof.Machine

/-! ## The scanline schedule -/

/-- The fixed figures of the schedule (R8): cycles per scanline, cycles per frame. -/
def scanlineCycles : Nat := 456
def frameCycles : Nat := 70224

/-- LY of the next line: 0 after 153 (R440). -/
def nextLine (ly : Byte) : Byte := if ly.toNat ≥ 153 then 0 else ly + 1

/-- One scanline passes: LY moves on, entering line 144 requests V-blank, the wrap to line 0 asserts `frame_ready`
(R440 to R442). -/
def lcdLine (s : State) : State :=
  let ly := nextLine s.ly
  let s := s.poke lyAddr ly
  let s := if ly = 144 then s.poke ifAddr (s.ifReg ||| 0x01) else s
  if ly = 0 then { s with frameReady := true } else s

/-- `k` scanlines pass. -/
def lcdLines : Nat → State → State
  | 0, s => s
  | k + 1, s => lcdLines k (lcdLine s)

/-- `LcdStep(n)`: every whole 456 accumulated cycles are one scanline (R440). -/
def lcdStep (n : Nat) (s : State) : State :=
  let acc := s.lcdAcc + n
  lcdLines (acc / scanlineCycles) { s with lcdAcc := acc % scanlineCycles }

/-! ## Pixels: pure functions of VRAM, SCX and SCY (R446) -/

/-- A pixel index, 0 to 3. -/
abbrev Pixel := BitVec 2

/-- The byte of VRAM at an offset, read directly (R106). -/
def State.vram (s : State) (off : Nat) : Byte := Memory.load s.ram (0x8000 + off)

/-- Pixel `c` of a tile row: bit 7 - c of the high plane, then of the low plane (R443). -/
def tilePixel (lo hi : Byte) (c : Nat) : Pixel := BitVec.ofBool (hi.getLsbD (7 - c)) ++ BitVec.ofBool (lo.getLsbD (7 - c))

/-- Row `r` of the tile at a base address: eight indices, left to right (R443). -/
def tileRow (s : State) (base r : Nat) : List Pixel :=
  let lo := s.vram (base - 0x8000 + 2 * r)
  let hi := s.vram (base - 0x8000 + 2 * r + 1)
  (List.range 8).map (tilePixel lo hi)

/-- `decode_tile(B)`: 64 indices, row by row (R443). -/
def decodeTile (s : State) (base : Nat) : List Pixel := (List.range 8).flatMap (tileRow s base)

/-- The base address of the tile that map entry (ex, ey) selects (R444). -/
def tileBase (s : State) (ex ey : Nat) : Nat := 0x8000 + 16 * (s.vram (0x1800 + 32 * ey + ex)).toNat

/-- `bg[row][column]`: the pixel of the tile that covers it (R444). -/
def bgPixel (s : State) (row col : Nat) : Pixel :=
  (decodeTile s (tileBase s (col / 8) (row / 8))).getD (8 * (row % 8) + col % 8) 0

/-- `compose_background()`: 256 rows of 256 (R444). -/
def composeBackground (s : State) : List (List Pixel) :=
  (List.range 256).map fun row => (List.range 256).map fun col => bgPixel s row col

/-- `frame[y][x]`: the background at (SCY + y, SCX + x), mod 256 (R445). -/
def framePixel (s : State) (y x : Nat) : Pixel :=
  bgPixel s ((s.scy.toNat + y) % 256) ((s.scx.toNat + x) % 256)

/-- `frame()`: 144 rows of 160 (R445). -/
def frame (s : State) : List (List Pixel) :=
  (List.range 144).map fun y => (List.range 160).map fun x => framePixel s y x

/-- The host's `frame_ready()`: the bit, which the observation clears (R442). -/
def observeFrameReady (s : State) : Bool × State := (s.frameReady, { s with frameReady := false })

end Sys2Proof.Machine
end

