-- ==== Sys2Proof/Machine/Cpu.lean ====
section
/-! DEFINITION. One step of the CPU and of the whole machine (R400 to R404, R423, R450 of spec/60_exceptions.md). -/

namespace Sys2Proof.Machine

/-- `HaltWake()` for a value of the parameter `HALT_WAKE_NEEDS_IE` (R8, R403). -/
def haltWake (needsIe : Bool) (s : State) : Bool := if needsIe then s.pending != 0 else (s.ifReg &&& 0x1F) != 0

/-- An idle step of HALTED or STOPPED: 4 cycles and nothing else (R403, R404). -/
def idle (s : State) : State := s.tick 4

/-- The delayed effect of EI (R31, R400 step 5). -/
def promoteEi (s : State) : State := if s.imeSched then { s with ime := true, imeSched := false } else s

/-- Steps 5 to 7 of R400: promote, fetch, execute. -/
def runInstruction (s : State) : Result :=
  let (i, s) := fetchInstr (promoteEi s)
  exec i s

/-- Steps 4 to 7 of R400: the interrupt check goes before the fetch (R420, R423). -/
def runningStep (s : State) : Result :=
  match s.interrupt with
  | some k => .next (takeInterrupt k s)
  | none => runInstruction s

/-- The fault a FAULTED machine answers at every call (R400 step 1, U2). -/
def recordedFault (s : State) : Fault :=
  match s.fault with
  | some r => .illegalOpcode r.pc r.byte
  | none => .stuck

/-- `CpuStep(button_event)` (R400), for a value of `HALT_WAKE_NEEDS_IE`. -/
def cpuStep (needsIe button : Bool) (s : State) : Result :=
  match s.runState with
  | .faulted => .fault (recordedFault s)
  | .stopped => if button then runningStep { s with runState := .running } else .next (idle s)
  | .halted => if haltWake needsIe s then runningStep { s with runState := .running } else .next (idle s)
  | .running => runningStep s

/-- `SystemStep(button_event)`: the CPU step, then the LCD controller advanced by the cycles it returned; after a faulting step
the LCD controller is not advanced (R450, R410). -/
def systemStep (needsIe button : Bool) (s : State) : Result :=
  match cpuStep needsIe button s with
  | .next t =>
    match t.runState with
    | .faulted => .next t
    | .running | .halted | .stopped => .next (lcdStep (t.cycleCounter - s.cycleCounter) t)
  | .fault r => .fault r
  | .refused r => .refused r

/-- The `button_event` of this step: the first input the host has supplied, else the open input of Config (log 8). -/
def takeButton (s : State) : Bool × State :=
  match s.buttonEvents with
  | b :: bs => (b, { s with buttonEvents := bs, ticks := s.ticks + 1 })
  | [] => (Config.buttonEvent s.ticks, { s with ticks := s.ticks + 1 })

/-- One system step with its host input (R450; log 1). -/
def machineStep (needsIe : Bool) (s : State) : Result :=
  let (button, s) := takeButton s
  systemStep needsIe button s

/-- The value of `HALT_WAKE_NEEDS_IE` that `step` takes: false, the literal reading of the source (R8, D8; log 9). -/
def haltWakeNeedsIe : Bool := false

end Sys2Proof.Machine
end

