-- ==== Sys2Proof/Machine/Step.lean ====
section
/-! DEFINITION. The machine's step relation (R450), and the host's way to put an instruction where the next step fetches it. -/

namespace Sys2Proof.Machine

/-- One tick of the Machine: `SystemStep` (R450; log 1). -/
def step (s : State) : Host.Outcome State Fault Refusal := machineStep haltWakeNeedsIe s

/-- The state with a table word's instruction where the next step fetches (log 5, log 12): from reset, in the boot ROM at 0x0000. -/
def State.withFetchWord (s : State) (nbits w : Nat) : State :=
  s.withFetched ((tableBytes nbits w ++ [0, 0]).take 3)

end Sys2Proof.Machine
end

