-- ==== Sys2Proof/Machine/Frames.lean ====
section
/-! DEFINITION. `frame_step` (R451): system steps until the frame's cycles are up. -/

namespace Sys2Proof.Machine

/-- A system step inside `frame_step`: its cycles count towards the frame (R451). -/
def countedStep (needsIe : Bool) (s : State) : Result :=
  match machineStep needsIe s with
  | .next t => .next { t with cyclesThisFrame := t.cyclesThisFrame + (t.cycleCounter - s.cycleCounter) }
  | .fault r => .fault r
  | .refused r => .refused r

/-- `n` such steps, one after another. -/
def countedSteps (needsIe : Bool) : Nat → State → Result
  | 0, s => .next s
  | n + 1, s =>
    match countedStep needsIe s with
    | .next t => countedSteps needsIe n t
    | .fault r => .fault r
    | .refused r => .refused r

/-- The loop of `frame_step`, with a bound on its passes: it stops at 70224 cycles, or at a fault. -/
def frameLoop (needsIe : Bool) : Nat → State → Result
  | 0, s => .next s
  | k + 1, s =>
    if s.cyclesThisFrame ≥ frameCycles then .next s
    else
      match countedStep needsIe s with
      | .next t => frameLoop needsIe k t
      | .fault r => .fault r
      | .refused r => .refused r

/-- More passes than any frame takes: every step reports at least 4 cycles, but the one that faults (R451; log 30). -/
def framePasses : Nat := frameCycles / 4 + 2

/-- `frame_step()`: the frame as memory then stands, and the state with the excess cycles carried over (R451, R446). -/
def frameStep (needsIe : Bool) (s : State) : Host.Outcome (List (List Pixel) × State) Fault Refusal :=
  match frameLoop needsIe framePasses s with
  | .next t => .next (frame t, { t with cyclesThisFrame := t.cyclesThisFrame - frameCycles })
  | .fault r => .fault r
  | .refused r => .refused r

end Sys2Proof.Machine
end

