-- ==== Sys2Proof/Machine/Launch.lean ====
section
/-! DEFINITION. What the host does before and between steps: loading a cartridge and a boot ROM (R100 to R103), reset (R470), the
launch states (R474), the post-boot check (R473), and the register accessors (R453). None of it is a machine step. -/

namespace Sys2Proof.Machine

/-! ## Images -/

/-- An image that lists all the given bytes from offset 0. -/
def imageFrom : Nat → List Byte → Image
  | _, [] => []
  | k, v :: vs => (k, v) :: imageFrom (k + 1) vs

/-- The errors of the cartridge loader (R102, R412). -/
inductive LoadError where
  /-- The image is neither 32768 nor 65536 bytes; the source has no name for it (N15; log 31). -/
  | badLength (length : Nat)
  | unsupportedCartridge (type : Byte)
  | unsupportedRomSize (code : Byte)
  | unsupportedRamSize (code : Byte)
deriving DecidableEq, Repr

/-- The header fields the loader inspects (R102). -/
structure Header where
  title : List Byte
  cartridgeType : Byte
  romSize : Byte
  ramSize : Byte
  destination : Byte
deriving DecidableEq, Repr

/-- The header of an image (R102). -/
def headerOf (bytes : List Byte) : Header :=
  { title := (bytes.drop 0x0134).take 15
    cartridgeType := bytes.getD 0x0147 0
    romSize := bytes.getD 0x0148 0
    ramSize := bytes.getD 0x0149 0
    destination := bytes.getD 0x014A 0 }

/-- The loader's verdict: length, type, ROM size and RAM size are checked, in that order (R100, R102; log 31). -/
def loadError? (bytes : List Byte) : Option LoadError :=
  let header := headerOf bytes
  if bytes.length ≠ 32768 ∧ bytes.length ≠ 65536 then some (.badLength bytes.length)
  else if header.cartridgeType ≠ 0x00 then some (.unsupportedCartridge header.cartridgeType)
  else if header.romSize ≠ 0x00 ∧ header.romSize ≠ 0x01 then some (.unsupportedRomSize header.romSize)
  else if header.ramSize ≠ 0x00 then some (.unsupportedRamSize header.ramSize)
  else none

/-- The type of the parameter `CART`: an image the loader accepts. No machine state is made from another (R100, U7). -/
structure Cartridge where
  bytes : List Byte
  accepted : loadError? bytes = none
deriving DecidableEq, Repr

/-- `load(bytes)` of the cartridge (R100): a refused image gives no cartridge, so no machine. -/
def loadCartridge (bytes : List Byte) : Except LoadError Cartridge :=
  match h : loadError? bytes with
  | none => .ok ⟨bytes, h⟩
  | some e => .error e

/-- The image a cartridge puts on the bus. -/
def Cartridge.image (cart : Cartridge) : Image := imageFrom 0 cart.bytes

/-- The type of the parameter `BOOT_ROM`: 256 bytes (R8, R103). -/
abbrev BootRom := Vector Byte 256

/-! ## Reset and launch -/

/-- Whether an address is a byte of VRAM, WRAM, OAM or HRAM, whose contents after reset are the parameter `RAM_INIT` (R8, R60). -/
def ramInitAddr (k : Nat) : Bool :=
  (0x8000 ≤ k && k < 0xA000) || (0xC000 ≤ k && k < 0xE000) || (0xFE00 ≤ k && k < 0xFEA0) || (0xFF80 ≤ k && k < 0xFFFF)

/-- Whether an address has storage behind it: `vram`, `wram`, `oam`, `io`, `hram`, `ie` (R36). -/
def storageAddr (k : Nat) : Bool := ramInitAddr k || (0xFF00 ≤ k && k < 0xFF80) || k == 0xFFFF

/-- The storage of a reset machine with `RAM_INIT` as the cells say: RAM as listed (of two cells for one byte the later counts),
every other byte, the I/O bytes and IE among them, 0x00 (R60, D13; log 6). -/
def ramFrom (ramInit : List Host.Cell) : Memory := Memory.storeAll [] (ramInit.filter fun x => ramInitAddr x.1)

/-- The reset state for a `RAM_INIT`; `State.reset` is the one for the default (R8, R60; log 6). -/
def State.resetWith (ramInit : List Host.Cell) : State := { State.reset with ram := ramFrom ramInit }

/-- `Machine.reset()` of a machine that has its images: they are not changed by it, and the model's own counters and supplied
inputs go on (R470; log 29). RAM is again what `RAM_INIT` says. -/
def State.hostReset (ramInit : List Host.Cell) (s : State) : State :=
  { State.resetWith ramInit with
    bootRom := s.bootRom, cart := s.cart, buttonEvents := s.buttonEvents, draws := s.draws, ticks := s.ticks }

/-- The cold launch state: reset, with the supplied images (R474 (a)). -/
def State.cold (ramInit : List Host.Cell) (bootRom : BootRom) (cart : Cartridge) : State :=
  { State.resetWith ramInit with bootRom := imageFrom 0 bootRom.toList, cart := cart.image }

/-- The bytes of the post-boot contract (R473). -/
def postBootBytes : List (Word × Byte) :=
  [(0xFF05, 0x00), (0xFF06, 0x00), (0xFF07, 0x00), (0xFF10, 0x80), (0xFF11, 0xBF), (0xFF12, 0xF3), (0xFF26, 0xF1),
   (0xFF40, 0x91), (0xFF47, 0xFC), (0xFF48, 0xFF), (0xFF49, 0xFF), (0xFFFF, 0x00)]

/-- What the boot program may have left, which the contract leaves open: any storage bytes (RAM, IF, the remaining I/O bytes), LY
within its range and `lcd_acc` within its range. The spec's defaults are the values the fields have here (R474 (b); log 32). -/
structure BootLeavings where
  cells : List Host.Cell := []
  ly : Fin 154 := 0
  lcdAcc : Fin 456 := 0
deriving DecidableEq, Repr

/-- The storage of the post-boot state: what was left, then LY, then the bytes the contract fixes and 0xFF50 (R473, R474). -/
def postBootRam (left : BootLeavings) : Memory :=
  Memory.storeAll (Memory.storeAll [] (left.cells.filter fun x => storageAddr x.1))
    ((lyAddr, BitVec.ofNat 8 left.ly) :: (bootAddr, 0x01) :: postBootBytes.map fun x => (x.1.toNat, x.2))

/-- The post-boot launch state (R474 (b); log 32). -/
def State.postBoot (left : BootLeavings) (cart : Cartridge) : State :=
  { State.reset with
    a := 0x01, f := 0xB0, b := 0x00, c := 0x13, d := 0x00, e := 0xD8, h := 0x01, l := 0x4D
    pc := 0x0100, sp := 0xFFFE, bootUnmap := true, cart := cart.image
    ram := postBootRam left, lcdAcc := left.lcdAcc }

/-- One entry of `PostBootMismatch` (R412): a register pair or an address, the expected value and the actual one. -/
inductive Mismatch where
  | pair (name : String) (expected actual : Word)
  | byte (addr : Word) (expected actual : Byte)
deriving DecidableEq, Repr

/-- The host's self-test of the post-boot contract: the entries that differ; it changes no state (R473, R412). -/
def postBootMismatches (s : State) : List Mismatch :=
  let pairs := [("AF", (0x01B0 : Word), s.af), ("BC", 0x0013, s.bc), ("DE", 0x00D8, s.de), ("HL", 0x014D, s.hl)]
  (pairs.filter fun p => p.2.1 != p.2.2).map (fun p => Mismatch.pair p.1 p.2.1 p.2.2) ++
    (postBootBytes.filter fun x => s.peek x.1 != x.2).map (fun x => Mismatch.byte x.1 x.2 (s.peek x.1))

/-! ## Host accessors (R453, D39): the other registers have `State.setReg` and `State.setPair` -/

/-- The host's write of F: masked with 0xF0 (R24, R453). -/
def State.hostSetF (s : State) (v : Byte) : State := { s with f := v &&& 0xF0 }

/-- The host's write of one flag (R453). -/
def State.hostSetFlagZ (s : State) (v : Bool) : State := s.setFlags v s.flagN s.flagH s.flagC
def State.hostSetFlagN (s : State) (v : Bool) : State := s.setFlags s.flagZ v s.flagH s.flagC
def State.hostSetFlagH (s : State) (v : Bool) : State := s.setFlags s.flagZ s.flagN v s.flagC
def State.hostSetFlagC (s : State) (v : Bool) : State := s.setFlags s.flagZ s.flagN s.flagH v

end Sys2Proof.Machine
end

