-- ==== Sys2Proof/Safety.lean ====
section
/-! DEFINITION. What holds of every state a run reaches (`State.Inv`), and what counts as a safe run. -/

namespace Sys2Proof.Machine

/-- What the spec promises of every state of a run. -/
structure State.Inv (s : State) : Prop where
  /-- "F bits 0-3 are always zero when observed" (R24). -/
  flagsLow : s.f &&& 0x0F = 0
  /-- The storage is in its canonical form. -/
  ramWf : Memory.wf s.ram
  /-- The storage lists no address that has none (R36). -/
  ramAddr : ∀ x ∈ s.ram, storageAddr x.1 = true
  /-- The images are in their form. -/
  bootRomWf : Image.wf s.bootRom
  cartWf : Image.wf s.cart
  /-- The boot ROM has 256 bytes (R103), the cartridge at most 65536 (R100). -/
  bootRomSize : ∀ x ∈ s.bootRom, x.1 < 256
  cartSize : ∀ x ∈ s.cart, x.1 < 65536
  /-- The cartridge is one the loader accepts: type, ROM size and RAM size (R102, U7). -/
  cartHeader : s.cartByte 0x0147 = 0x00 ∧ (s.cartByte 0x0148 = 0x00 ∨ s.cartByte 0x0148 = 0x01) ∧ s.cartByte 0x0149 = 0x00
  /-- `0 <= lcd_acc < 456` between LCD steps (R47, R440). -/
  lcdAcc : s.lcdAcc < scanlineCycles
  /-- LY is a line of the frame (R42, R440). -/
  ly : s.ly.toNat ≤ 153
  /-- A byte with bit 0 set at 0xFF50 means the overlay is gone (R33, R93). -/
  latch : (Memory.load s.ram bootAddr).getLsbD 0 = true → s.bootUnmap = true
  /-- The fault record is kept exactly in FAULTED (R34, R410). -/
  faultRecord : s.runState = .faulted ↔ s.fault.isSome = true

/-- A state from which the machine can go on: it has not run into an undefined byte. -/
def State.Safe (s : State) : Prop := s.runState ≠ .faulted

/-- The first `n` steps from a state all answer a next state. -/
def SafeRun : Nat → State → Prop
  | 0, _ => True
  | n + 1, s => ∃ t, step s = .next t ∧ SafeRun n t

end Sys2Proof.Machine
end

