-- ==== Sys2Proof/Machine/Effects.lean ====
section
/-! DEFINITION. The effect tables the frame statements speak in: for each form, what its rule lets it change. They are written
from the rules' own words ("Flags: none", the destination of each pseudocode line, the flag table R55, the register uses R22 and
R28, the accesses R95), not from the meanings, which do not use them. -/

namespace Sys2Proof

open Machine

/-- The four flags (R23). -/
inductive Flag where
  | z | n | h | c
deriving DecidableEq, Repr

/-- An entry of the flag table (R55): `-`, `0`, `1`, `*`. -/
inductive FlagEntry where
  | leave | clear | set | compute
deriving DecidableEq, Repr

/-- The flag table: the entries Z, N, H, C of a form (R55). Every form not in the table leaves all four. -/
def Form.flagEntries : Form → FlagEntry × FlagEntry × FlagEntry × FlagEntry
  | .alu .add _ | .alu .adc _ | .aluD8 .add _ | .aluD8 .adc _ => (.compute, .clear, .compute, .compute)
  | .alu .sub _ | .alu .sbc _ | .alu .cp _ | .aluD8 .sub _ | .aluD8 .sbc _ | .aluD8 .cp _ => (.compute, .set, .compute, .compute)
  | .alu .and _ | .aluD8 .and _ => (.compute, .clear, .set, .clear)
  | .alu .xor _ | .alu .or _ | .aluD8 .xor _ | .aluD8 .or _ => (.compute, .clear, .clear, .clear)
  | .inc _ => (.compute, .clear, .compute, .leave)
  | .dec _ => (.compute, .set, .compute, .leave)
  | .daa => (.compute, .leave, .clear, .compute)
  | .cpl => (.leave, .set, .set, .leave)
  | .scf => (.leave, .clear, .clear, .set)
  | .ccf => (.leave, .clear, .clear, .compute)
  | .addHl _ => (.leave, .clear, .compute, .compute)
  | .addSpR8 _ | .ldHlSpPlusR8 _ => (.clear, .clear, .compute, .compute)
  | .rlca | .rla | .rrca | .rra => (.clear, .clear, .clear, .compute)
  | .cbRot .swap _ => (.compute, .clear, .clear, .clear)
  | .cbRot _ _ => (.compute, .clear, .clear, .compute)
  | .bit _ _ => (.compute, .clear, .set, .leave)
  | .pop .af => (.compute, .compute, .compute, .compute)
  | _ => (.leave, .leave, .leave, .leave)

/-- The entry of one flag (R55). -/
def Form.flagEntry (f : Form) : Flag → FlagEntry
  | .z => f.flagEntries.1
  | .n => f.flagEntries.2.1
  | .h => f.flagEntries.2.2.1
  | .c => f.flagEntries.2.2.2

/-- Whether a pair holds a register (R21). -/
def Pair.holds : Pair → Reg → Bool
  | .bc, .b | .bc, .c | .de, .d | .de, .e | .hl, .h | .hl, .l => true
  | _, _ => false

/-- Whether a stack pair holds a register (R21). -/
def StackPair.holds : StackPair → Reg → Bool
  | .bc, .b | .bc, .c | .de, .d | .de, .e | .hl, .h | .hl, .l | .af, .a => true
  | _, _ => false

/-- The registers a form writes: its destination, and HL where the form steps it (R22). -/
def Form.writesReg : Form → Reg → Bool
  | .ldRegReg dst _, r | .ldRegMemHl dst, r | .ldRegD8 dst _, r => dst == r
  | .ldAMemBc, r | .ldAMemDe, r | .ldhAMemA8 _, r | .ldAMemC, r | .ldAMemA16 _, r => r == .a
  | .ldMemHlIncA, r | .ldMemHlDecA, r => Pair.hl.holds r
  | .ldAMemHlInc, r | .ldAMemHlDec, r => r == .a || Pair.hl.holds r
  | .ldPairD16 dst _, r => dst.holds r
  | .pop dst, r => dst.holds r
  | .alu op _, r | .aluD8 op _, r => op != .cp && r == .a
  | .inc (.reg x), r | .dec (.reg x), r => x == r
  | .daa, r | .cpl, r | .rlca, r | .rla, r | .rrca, r | .rra, r => r == .a
  | .addHl _, r | .ldHlSpPlusR8 _, r => Pair.hl.holds r
  | .incPair p, r | .decPair p, r => p.holds r
  | .cbRot _ (.reg x), r | .res _ (.reg x), r | .set _ (.reg x), r => x == r
  | _, _ => false

/-- The form an instruction acts as in a state: the bare prefix acts as the CB-page row of the byte after it (R131). -/
def Form.actsAs (f : Form) (s : State) : Form :=
  match f with
  | .prefixCb => (cbInstr (s.peek (s.pc + 1))).form
  | _ => f

/-- SP after a form: 2 lower for what pushes, 2 higher for what pops, as its own rule says for the rest (R28, R22). -/
def Form.spAfter (f : Form) (s : State) : Word :=
  match f with
  | .push _ | .callA16 _ | .rst _ => s.sp - 2
  | .callCc cc _ => if s.cond cc then s.sp - 2 else s.sp
  | .pop _ | .ret | .reti => s.sp + 2
  | .retCc cc => if s.cond cc then s.sp + 2 else s.sp
  | .ldPairD16 .sp w => w
  | .incPair .sp => s.sp + 1
  | .decPair .sp => s.sp - 1
  | .addSpR8 e => s.sp + sext8 e
  | .ldSpHl => s.hl
  | _ => s.sp

/-- The addresses a form stores a byte to, computed in the state before it (R95): one for the 8-bit stores and the
read-modify-writes on (HL), two for `LD (a16),SP` and for what pushes, none for the rest. -/
def Form.stores (f : Form) (s : State) : List Word :=
  match f with
  | .ldMemHlReg _ | .ldMemHlD8 _ | .ldMemHlIncA | .ldMemHlDecA | .inc .memHl | .dec .memHl | .cbRot _ .memHl
  | .res _ .memHl | .set _ .memHl => [s.hl]
  | .ldMemBcA => [s.bc]
  | .ldMemDeA => [s.de]
  | .ldhMemA8A n => [highPage n]
  | .ldMemCA => [highPage s.c]
  | .ldMemA16A a => [a]
  | .ldMemA16Sp a => [a, a + 1]
  | .push _ | .callA16 _ | .rst _ => [s.sp - 1, s.sp - 2]
  | .callCc cc _ => if s.cond cc then [s.sp - 1, s.sp - 2] else []
  | _ => []

/-- What an 8-bit operand reads as: a register, or the byte at HL (R124). -/
def Machine.State.operand (s : State) : R8 → Byte
  | .reg r => s.reg r
  | .memHl => s.peek s.hl

/-- The state once an 8-bit operand has been read: a read changes nothing, but that one of 0xFEA0 to 0xFEFF uses up a draw (R94,
R83). -/
def Machine.State.afterRead (s : State) : R8 → State
  | .reg _ => s
  | .memHl => s.touch s.hl

/-- The state with PC past `len` instruction bytes, mod 2^16 (R27), and `cycles` counted (R35). -/
def Machine.State.past (s : State) (len cycles : Nat) : State :=
  { s with pc := s.pc + BitVec.ofNat 16 len, cycleCounter := s.cycleCounter + cycles }

/-- The word a pop reads: low byte at SP, high byte at SP + 1 (R201). -/
def Machine.State.stackWord (s : State) : Word := wordOf ((s.touch s.sp).peek (s.sp + 1)) (s.peek s.sp)

/-- The state a pop leaves: both bytes read, SP two higher (R201). -/
def Machine.State.afterPop (s : State) : State := { (s.touch s.sp).touch (s.sp + 1) with sp := s.sp + 2 }

/-- The state a push of a word leaves: high byte at SP - 1, low byte at SP - 2, SP two lower (R200). -/
def Machine.State.afterPush (s : State) (w : Word) : State :=
  { writeByte (s.sp - 2) (loByte w) (writeByte (s.sp - 1) (hiByte w) s) with sp := s.sp - 2 }

/-- One of the four flags (R23). -/
def Machine.State.flag (s : State) : Flag → Bool
  | .z => s.flagZ
  | .n => s.flagN
  | .h => s.flagH
  | .c => s.flagC

/-- The run state a form leaves (R350 to R352, R410). -/
def Form.runAfter (f : Form) (s : State) : RunState :=
  match f with
  | .halt => .halted
  | .stop _ => .stopped
  | .undefined _ => .faulted
  | _ => s.runState

/-- The interrupt master enable and the pending EI a form leaves: `DI`, `EI` and `RETI` write them, nothing else does
(R30, R31). -/
def Form.imeAfter (f : Form) (s : State) : Bool × Bool :=
  match f with
  | .di => (false, false)
  | .ei => (s.ime, true)
  | .reti => (true, false)
  | _ => (s.ime, s.imeSched)

/-- The length in bytes (R120, R492); the bare prefix counts its second byte, an undefined byte moves nothing (R410). -/
def Form.length (f : Form) : Nat :=
  match f with
  | .stop _ | .ldRegD8 _ _ | .ldMemHlD8 _ | .ldhMemA8A _ | .ldhAMemA8 _ | .aluD8 _ _ | .addSpR8 _ | .ldHlSpPlusR8 _ | .jrR8 _
  | .jrCc _ _ | .cbRot _ _ | .bit _ _ | .res _ _ | .set _ _ | .prefixCb => 2
  | .ldMemA16A _ | .ldAMemA16 _ | .ldPairD16 _ _ | .ldMemA16Sp _ | .jpA16 _ | .jpCc _ _ | .callA16 _ | .callCc _ _ => 3
  | .undefined _ => 0
  | _ => 1

/-- The cycles an 8-bit operand form takes: one figure for a register, one for (HL) (R490, R491). -/
def r8Cycles (x : R8) (onReg onMem : Nat) : Nat :=
  match x with
  | .reg _ => onReg
  | .memHl => onMem

/-- The cycle tables (R490, R491): what a form returns, by whether its condition holds (the bare prefix as it acts). -/
def Form.cycles (f : Form) (s : State) : Nat :=
  let either (cc : Cond) (taken notTaken : Nat) : Nat := if s.cond cc then taken else notTaken
  match f with
  | .undefined _ => 0
  | .nop | .halt | .stop _ | .di | .ei | .ldRegReg _ _ | .daa | .cpl | .scf | .ccf | .rlca | .rla | .rrca | .rra | .jpMemHl => 4
  | .alu _ x => r8Cycles x 4 8
  | .inc x | .dec x => r8Cycles x 4 12
  | .ldRegMemHl _ | .ldMemHlReg _ | .ldRegD8 _ _ | .ldAMemBc | .ldAMemDe | .ldMemBcA | .ldMemDeA | .ldMemHlIncA | .ldAMemHlInc
  | .ldMemHlDecA | .ldAMemHlDec | .ldMemCA | .ldAMemC | .ldSpHl | .aluD8 _ _ | .addHl _ | .incPair _ | .decPair _ => 8
  | .ldMemHlD8 _ | .ldhMemA8A _ | .ldhAMemA8 _ | .ldPairD16 _ _ | .pop _ | .ldHlSpPlusR8 _ | .jrR8 _ => 12
  | .ldMemA16A _ | .ldAMemA16 _ | .push _ | .addSpR8 _ | .jpA16 _ | .ret | .reti | .rst _ => 16
  | .ldMemA16Sp _ => 20
  | .callA16 _ => 24
  | .jrCc cc _ => either cc 12 8
  | .jpCc cc _ => either cc 16 12
  | .callCc cc _ => either cc 24 12
  | .retCc cc => either cc 20 8
  | .cbRot _ x | .res _ x | .set _ x => r8Cycles x 8 16
  | .bit _ x => r8Cycles x 8 12
  | .prefixCb => 0

end Sys2Proof
end

