-- ==== Sys2Proof/Certificates/Slice0/Obligations.lean ====
section
/-! DEFINITION. The statements about the model, for the provers. A row of the opcode table is written as a form and its operand
choices, `(Form.alu .add (.reg .b)).row` for `ADD A,B` (Sys2Proof/Forms.lean gives the row of every form). Where a statement
says `exec i s = .next t` it also says everything the instruction leaves unchanged: the fields `t` does not name. The opcode
bytes and cycle figures are those of the spec's tables R132, R133, R490, R491, which the spec marks as general knowledge
(log 25). -/

open Sys2Proof Sys2Proof.Machine

/-! ## Encoding -/

/-- Decoding the encoding of a whole instruction, with any bytes after it, gives that instruction and those bytes: no operand
bit and no opcode bit is dropped (R120, R132, R133). -/
def Obligations.EncodedInstructionDecodesBack : Prop :=
  ∀ (i : Instr) (rest : List Byte), i.wellFormed = true → decode (encode i ++ rest) = .ok (i, rest)

/-- Whatever decodes is the encoding of what it decodes to: each byte sequence has one meaning, and no two rows share one. -/
def Obligations.DecodedBytesEncodeBack : Prop :=
  ∀ (bytes rest : List Byte) (i : Instr), decode bytes = .ok (i, rest) → encode i ++ rest = bytes

/-- Decoding is total on the first byte, and on the second byte after 0xCB; exactly the eleven bytes of R140 decode to an
undefined row, and none of the 256 second bytes does (R135). -/
def Obligations.EveryFirstByteDecodes : Prop :=
  (∀ (b n m : Byte) (rest : List Byte), ∃ i tail, decode (b :: n :: m :: rest) = .ok (i, tail) ∧
    ((∃ u : Undefined, i = (Form.undefined u).row) ↔
      b ∈ ([0xD3, 0xDB, 0xDD, 0xE3, 0xE4, 0xEB, 0xEC, 0xED, 0xF4, 0xFC, 0xFD] : List Byte))) ∧
  (∀ (b : Byte) (rest : List Byte), ∃ i, decode (0xCB :: b :: rest) = .ok (i, rest) ∧ i.wellFormed = true ∧
    ∀ u : Undefined, i ≠ (Form.undefined u).row)

/-- Ten words of the spec's examples, byte by byte (R130, R133, and the examples of files 40 to 48). -/
def Obligations.WrittenOutWordsDecode : Prop :=
  decode [0xFE, 0x42] = .ok (.cpD8 0x42, []) ∧
  decode [0x28, 0x05] = .ok (.jrZR8 0x05, []) ∧
  decode [0x17] = .ok (.rla, []) ∧
  decode [0xEA, 0x34, 0xC2] = .ok (.ldMemA16A 0xC234, []) ∧
  decode [0x01, 0x34, 0x12] = .ok (.ldBcD16 0x1234, []) ∧
  decode [0xCD, 0x10, 0xC0] = .ok (.callA16 0xC010, []) ∧
  decode [0xCB, 0x7C] = .ok (.bit7H, []) ∧
  decode [0xCB, 0x86] = .ok (.res0MemHl, []) ∧
  decode [0xCB, 0xD3] = .ok (.set2E, []) ∧
  decode [0x10, 0xD3, 0x3C] = .ok (.stop 0xD3, [0x3C])

/-- The prefix row fetches the next byte and acts as that byte's row of the second page, PC being still at the prefix (R131). The
spec marks as its own decision that both bytes are one instruction (D33; log 11). -/
def Obligations.PrefixActsAsSecondPage : Prop :=
  ∀ s : State, ∃ t, exec .prefixCb s = .next t ∧ exec (cbInstr (s.peek (s.pc + 1))) (s.touch (s.pc + 1)) = .next t

/-- A step runs the decoded instruction. Where the CPU is RUNNING, no interrupt is taken first, and the bytes at PC (after the
delayed effect of an EI) decode to a whole instruction `i`, the step is `exec i`, followed by the LCD controller's advance by the
cycles it counted, unless it faulted (R400 steps 5 to 7, R450; log 1, log 10). The host input of the step is used up. -/
def Obligations.StepRunsDecodedInstruction : Prop :=
  ∀ (s : State) (i : Instr) (rest : List Byte),
    s.runState = .running → s.interrupt = none → i.wellFormed = true →
    decode (fetchBytes 3 s.pc (promoteEi (takeButton s).2)).1 = .ok (i, rest) →
    step s =
      match exec i (fetchBytes (encode i).length s.pc (promoteEi (takeButton s).2)).2 with
      | .next t => if t.runState = .faulted then .next t else .next (lcdStep (t.cycleCounter - s.cycleCounter) t)
      | .fault r => .fault r
      | .refused r => .refused r

/-! ## 8-bit loads (R161 to R179) -/

/-- `LD r,r'`, `LD r,d8`: the register takes the source register or the byte; nothing else changes (R161, R164). Covers the 49
rows `LD r,r'` and the 7 rows `LD r,d8`. -/
def Obligations.RegisterLoads : Prop :=
  (∀ (dst src : Reg) (s : State),
    encode (Form.ldRegReg dst src).row = [BitVec.ofNat 8 (0x40 + 8 * dst.code + src.code)] ∧
    exec (Form.ldRegReg dst src).row s = .next ((s.past 1 4).setReg dst (s.reg src))) ∧
  (∀ (dst : Reg) (n : Byte) (s : State),
    encode (Form.ldRegD8 dst n).row = [BitVec.ofNat 8 (0x06 + 8 * dst.code), n] ∧
    exec (Form.ldRegD8 dst n).row s = .next ((s.past 2 8).setReg dst n))

/-- The loads from memory: `LD r,(HL)`, `LD A,(BC)`, `LD A,(DE)`, `LD A,(HL+)`, `LD A,(HL-)`, `LDH A,(a8)`, `LD A,(C)`,
`LD A,(a16)`. The address is the one before the instruction; HL steps mod 2^16; no flag changes (R162, R166, R167, R171, R173,
R175, R177, R179). `LD A,(C)` is the spec's general knowledge (R177, G4; log 26). Covers those 14 rows. -/
def Obligations.LoadsFromMemory : Prop :=
  ∀ s : State,
  (∀ dst : Reg, encode (Form.ldRegMemHl dst).row = [BitVec.ofNat 8 (0x46 + 8 * dst.code)] ∧
    exec (Form.ldRegMemHl dst).row s = .next (((s.touch s.hl).past 1 8).setReg dst (s.peek s.hl))) ∧
  (encode .ldAMemBc = [0x0A] ∧ exec .ldAMemBc s = .next { (s.touch s.bc).past 1 8 with a := s.peek s.bc }) ∧
  (encode .ldAMemDe = [0x1A] ∧ exec .ldAMemDe s = .next { (s.touch s.de).past 1 8 with a := s.peek s.de }) ∧
  (encode .ldAMemHlInc = [0x2A] ∧
    exec .ldAMemHlInc s = .next { ((s.touch s.hl).past 1 8).setHl (s.hl + 1) with a := s.peek s.hl }) ∧
  (encode .ldAMemHlDec = [0x3A] ∧
    exec .ldAMemHlDec s = .next { ((s.touch s.hl).past 1 8).setHl (s.hl - 1) with a := s.peek s.hl }) ∧
  (∀ n : Byte, encode (.ldhAMemA8 n) = [0xF0, n] ∧
    exec (.ldhAMemA8 n) s = .next { (s.touch (wordOf 0xFF n)).past 2 12 with a := s.peek (wordOf 0xFF n) }) ∧
  (encode .ldAMemC = [0xF2] ∧
    exec .ldAMemC s = .next { (s.touch (wordOf 0xFF s.c)).past 1 8 with a := s.peek (wordOf 0xFF s.c) }) ∧
  (∀ w : Word, encode (.ldAMemA16 w) = [0xFA, loByte w, hiByte w] ∧
    exec (.ldAMemA16 w) s = .next { (s.touch w).past 3 16 with a := s.peek w })

/-- The stores: `LD (HL),r`, `LD (HL),d8`, `LD (BC),A`, `LD (DE),A`, `LD (HL+),A`, `LD (HL-),A`, `LDH (a8),A`, `LD (C),A`,
`LD (a16),A`. One CPU write of one byte at the address before the instruction, HL steps mod 2^16, nothing else changes (R163,
R165, R168, R169, R170, R172, R174, R176, R178). What the write does is `BusWritesByRegion`. Covers those 15 rows. -/
def Obligations.StoresToMemory : Prop :=
  ∀ s : State,
  (∀ r : Reg, encode (Form.ldMemHlReg r).row = [BitVec.ofNat 8 (0x70 + r.code)] ∧
    exec (Form.ldMemHlReg r).row s = .next (writeByte s.hl (s.reg r) (s.past 1 8))) ∧
  (∀ n : Byte, encode (.ldMemHlD8 n) = [0x36, n] ∧ exec (.ldMemHlD8 n) s = .next (writeByte s.hl n (s.past 2 12))) ∧
  (encode .ldMemBcA = [0x02] ∧ exec .ldMemBcA s = .next (writeByte s.bc s.a (s.past 1 8))) ∧
  (encode .ldMemDeA = [0x12] ∧ exec .ldMemDeA s = .next (writeByte s.de s.a (s.past 1 8))) ∧
  (encode .ldMemHlIncA = [0x22] ∧ exec .ldMemHlIncA s = .next ((writeByte s.hl s.a (s.past 1 8)).setHl (s.hl + 1))) ∧
  (encode .ldMemHlDecA = [0x32] ∧ exec .ldMemHlDecA s = .next ((writeByte s.hl s.a (s.past 1 8)).setHl (s.hl - 1))) ∧
  (∀ n : Byte, encode (.ldhMemA8A n) = [0xE0, n] ∧
    exec (.ldhMemA8A n) s = .next (writeByte (wordOf 0xFF n) s.a (s.past 2 12))) ∧
  (encode .ldMemCA = [0xE2] ∧ exec .ldMemCA s = .next (writeByte (wordOf 0xFF s.c) s.a (s.past 1 8))) ∧
  (∀ w : Word, encode (.ldMemA16A w) = [0xEA, loByte w, hiByte w] ∧
    exec (.ldMemA16A w) s = .next (writeByte w s.a (s.past 3 16)))

/-! ## 16-bit loads and the stack (R200 to R208) -/

/-- `LD rr,d16`, `LD (a16),SP`, `LD SP,HL`: no flag; the word goes to memory low byte first, at `a` and `a + 1` mod 2^16 (R202,
R203, R204). `LD (a16),SP` and `LD SP,HL` are the spec's general knowledge (G4; log 26), the wrap of `a + 1` and the order of the
two writes its decisions D21, D25 (log 35, log 14). Covers those 6 rows. -/
def Obligations.WordLoads : Prop :=
  (∀ (p : Pair) (w : Word) (s : State),
    encode (Form.ldPairD16 p w).row = [BitVec.ofNat 8 (0x01 + 16 * p.code), loByte w, hiByte w] ∧
    exec (Form.ldPairD16 p w).row s = .next ((s.past 3 12).setPair p w)) ∧
  (∀ (w : Word) (s : State), encode (.ldMemA16Sp w) = [0x08, loByte w, hiByte w] ∧
    exec (.ldMemA16Sp w) s = .next (writeByte (w + 1) (hiByte s.sp) (writeByte w (loByte s.sp) (s.past 3 20)))) ∧
  (∀ s : State, encode .ldSpHl = [0xF9] ∧ exec .ldSpHl s = .next { s.past 1 8 with sp := s.hl })

/-- `PUSH rr`: the high byte goes to SP - 1, the low byte to SP - 2, SP is 2 lower, all mod 2^16; AF pushes A and F; the pair and
the flags are unchanged (R205, R206). `POP rr`: low byte from SP, high byte from SP + 1, SP is 2 higher; `POP AF` loads F with the
low byte masked by 0xF0, so all four flags and no low bit (R201, R207, R208). That SP wraps is the spec's decision D21 (R29;
log 35), and the order of a push's two writes its decision D25 (R200; log 14). Covers the 4 rows `PUSH` and the 4 rows `POP`. -/
def Obligations.PushesAndPops : Prop :=
  ∀ s : State,
    (∀ p : StackPair, encode (Form.push p).row = [BitVec.ofNat 8 (0xC5 + 16 * p.code)] ∧
      exec (Form.push p).row s = .next
        { writeByte (s.sp - 2) (loByte (s.stackPair p)) (writeByte (s.sp - 1) (hiByte (s.stackPair p)) (s.past 1 16)) with
          sp := s.sp - 2 }) ∧
    (encode .popBc = [0xC1] ∧ exec .popBc s = .next
      { s.afterPop.past 1 12 with b := hiByte s.stackWord, c := loByte s.stackWord }) ∧
    (encode .popDe = [0xD1] ∧ exec .popDe s = .next
      { s.afterPop.past 1 12 with d := hiByte s.stackWord, e := loByte s.stackWord }) ∧
    (encode .popHl = [0xE1] ∧ exec .popHl s = .next
      { s.afterPop.past 1 12 with h := hiByte s.stackWord, l := loByte s.stackWord }) ∧
    (encode .popAf = [0xF1] ∧ exec .popAf s = .next
      { s.afterPop.past 1 12 with a := hiByte s.stackWord, f := loByte s.stackWord &&& 0xF0 })

/-! ## 8-bit arithmetic and logic (R220 to R237) -/

/-- `ADD A,x` and `ADC A,x`: the sum, with the carry flag before it for ADC, mod 2^8; Z from the result, N 0, H and C the carries
out of bits 3 and 7, on integers (R221, R222). That ADC's carry-in counts in H and C is the spec's decision D3 (R237; log 26).
Covers the 18 rows `ADD A` and `ADC A`. -/
def Obligations.AdditionsToA : Prop :=
  ∀ s : State,
    let total (v : Byte) (c : Nat) : Nat := s.a.toNat + v.toNat + c
    let after (v : Byte) (c : Nat) (t : State) : State :=
      { t with
        a := BitVec.ofNat 8 (total v c)
        f := packFlags (decide (total v c % 256 = 0)) false (decide (s.a.toNat % 16 + v.toNat % 16 + c > 0xF))
          (decide (total v c > 0xFF)) }
    (∀ x : R8, encode (Form.alu .add x).row = [BitVec.ofNat 8 (0x80 + x.code)] ∧
      exec (Form.alu .add x).row s = .next (after (s.operand x) 0 ((s.afterRead x).past 1 (r8Cycles x 4 8)))) ∧
    (∀ n : Byte, encode (.addAD8 n) = [0xC6, n] ∧ exec (.addAD8 n) s = .next (after n 0 (s.past 2 8))) ∧
    (∀ x : R8, encode (Form.alu .adc x).row = [BitVec.ofNat 8 (0x88 + x.code)] ∧
      exec (Form.alu .adc x).row s =
        .next (after (s.operand x) s.flagC.toNat ((s.afterRead x).past 1 (r8Cycles x 4 8)))) ∧
    (∀ n : Byte, encode (.adcAD8 n) = [0xCE, n] ∧
      exec (.adcAD8 n) s = .next (after n s.flagC.toNat (s.past 2 8)))

/-- `SUB x` and `SBC A,x`: the difference mod 2^8, less the carry flag before it for SBC; Z from the result, N 1, H and C the
borrows, compared on integers (R223, R224). H as the borrow, and SBC's carry-in in H and C, are the spec's decision D3 (R237;
log 26). Covers the 18 rows `SUB` and `SBC A`. -/
def Obligations.SubtractionsFromA : Prop :=
  ∀ s : State,
    let after (v : Byte) (c : Nat) (t : State) : State :=
      { t with
        a := s.a - v - BitVec.ofNat 8 c
        f := packFlags (decide (s.a - v - BitVec.ofNat 8 c = 0)) true (decide (s.a.toNat % 16 < v.toNat % 16 + c))
          (decide (s.a.toNat < v.toNat + c)) }
    (∀ x : R8, encode (Form.alu .sub x).row = [BitVec.ofNat 8 (0x90 + x.code)] ∧
      exec (Form.alu .sub x).row s = .next (after (s.operand x) 0 ((s.afterRead x).past 1 (r8Cycles x 4 8)))) ∧
    (∀ n : Byte, encode (.subD8 n) = [0xD6, n] ∧ exec (.subD8 n) s = .next (after n 0 (s.past 2 8))) ∧
    (∀ x : R8, encode (Form.alu .sbc x).row = [BitVec.ofNat 8 (0x98 + x.code)] ∧
      exec (Form.alu .sbc x).row s =
        .next (after (s.operand x) s.flagC.toNat ((s.afterRead x).past 1 (r8Cycles x 4 8)))) ∧
    (∀ n : Byte, encode (.sbcAD8 n) = [0xDE, n] ∧
      exec (.sbcAD8 n) s = .next (after n s.flagC.toNat (s.past 2 8)))

/-- `CP x`: the flags of `A - x`, A not written: Z exactly when A is x, C exactly when A is less than x (the rule carries the
spec's decision D3; log 26). Covers the 9 rows `CP`. -/
def Obligations.CompareWithA : Prop :=
  ∀ s : State,
    let after (v : Byte) (t : State) : State :=
      { t with
        f := packFlags (decide (s.a = v)) true (decide (s.a.toNat % 16 < v.toNat % 16)) (decide (s.a.toNat < v.toNat)) }
    (∀ x : R8, encode (Form.alu .cp x).row = [BitVec.ofNat 8 (0xB8 + x.code)] ∧
      exec (Form.alu .cp x).row s = .next (after (s.operand x) ((s.afterRead x).past 1 (r8Cycles x 4 8)))) ∧
    (∀ n : Byte, encode (.cpD8 n) = [0xFE, n] ∧ exec (.cpD8 n) s = .next (after n (s.past 2 8)))

/-- `AND x`, `XOR x`, `OR x`: bitwise; Z from the result, N and C 0, H 1 for AND and 0 for the others (R225, R226, R227). The
fixed N, H and C are the spec's decision D4 (G5; log 26). Covers the 27 rows `AND`, `XOR`, `OR`. -/
def Obligations.LogicOnA : Prop :=
  ∀ s : State,
    let after (v : Byte) (h : Bool) (t : State) : State := { t with a := v, f := packFlags (decide (v = 0)) false h false }
    (∀ x : R8,
      encode (Form.alu .and x).row = [BitVec.ofNat 8 (0xA0 + x.code)] ∧
      exec (Form.alu .and x).row s =
        .next (after (s.a &&& s.operand x) true ((s.afterRead x).past 1 (r8Cycles x 4 8))) ∧
      encode (Form.alu .xor x).row = [BitVec.ofNat 8 (0xA8 + x.code)] ∧
      exec (Form.alu .xor x).row s =
        .next (after (s.a ^^^ s.operand x) false ((s.afterRead x).past 1 (r8Cycles x 4 8))) ∧
      encode (Form.alu .or x).row = [BitVec.ofNat 8 (0xB0 + x.code)] ∧
      exec (Form.alu .or x).row s =
        .next (after (s.a ||| s.operand x) false ((s.afterRead x).past 1 (r8Cycles x 4 8)))) ∧
    (∀ n : Byte,
      encode (.andD8 n) = [0xE6, n] ∧ exec (.andD8 n) s = .next (after (s.a &&& n) true (s.past 2 8)) ∧
      encode (.xorD8 n) = [0xEE, n] ∧ exec (.xorD8 n) s = .next (after (s.a ^^^ n) false (s.past 2 8)) ∧
      encode (.orD8 n) = [0xF6, n] ∧ exec (.orD8 n) s = .next (after (s.a ||| n) false (s.past 2 8)))

/-- `INC r`, `INC (HL)`, `DEC r`, `DEC (HL)`: one more or one less mod 2^8, written back to the operand; Z, N and H from the
value read, C unchanged, whatever the write then does (R229, R230, R231, R232). Covers the 16 rows. -/
def Obligations.ByteIncrementDecrement : Prop :=
  ∀ (x : R8) (s : State),
    encode (Form.inc x).row = [BitVec.ofNat 8 (0x04 + 8 * x.code)] ∧
    exec (Form.inc x).row s = .next
      { writeR8 x (s.operand x + 1) ((s.afterRead x).past 1 (r8Cycles x 4 12)) with
        f := packFlags (decide (s.operand x = 0xFF)) false (decide ((s.operand x).toNat % 16 = 0xF)) s.flagC } ∧
    encode (Form.dec x).row = [BitVec.ofNat 8 (0x05 + 8 * x.code)] ∧
    exec (Form.dec x).row s = .next
      { writeR8 x (s.operand x - 1) ((s.afterRead x).past 1 (r8Cycles x 4 12)) with
        f := packFlags (decide (s.operand x = 0x01)) true (decide ((s.operand x).toNat % 16 = 0)) s.flagC }

/-- `DAA`: the two corrections of R233, on integers; Z from the result, N unchanged, H 0, C set by the high correction after an
addition and kept otherwise. `CPL`, `SCF`, `CCF`: A complemented with N and H set; C set, or inverted, with N and H cleared; every
other flag unchanged (R234, R235, R236). All four rules are the spec's decision D7 (log 26). -/
def Obligations.DecimalAdjustComplementCarry : Prop :=
  ∀ s : State,
    let high : Bool := if s.flagN then s.flagC else s.flagC || decide (s.a.toNat > 0x99)
    let low : Bool := if s.flagN then s.flagH else s.flagH || decide (s.a.toNat % 16 > 9)
    let change : Nat := (if high then 0x60 else 0) + (if low then 0x06 else 0)
    let result : Byte := if s.flagN then s.a - BitVec.ofNat 8 change else s.a + BitVec.ofNat 8 change
    encode .daa = [0x27] ∧
    exec .daa s = .next { s.past 1 4 with a := result, f := packFlags (decide (result = 0)) s.flagN false high } ∧
    encode .cpl = [0x2F] ∧
    exec .cpl s = .next { s.past 1 4 with a := s.a ^^^ 0xFF, f := packFlags s.flagZ true true s.flagC } ∧
    encode .scf = [0x37] ∧ exec .scf s = .next { s.past 1 4 with f := packFlags s.flagZ false false true } ∧
    encode .ccf = [0x3F] ∧ exec .ccf s = .next { s.past 1 4 with f := packFlags s.flagZ false false (!s.flagC) }

/-- What DAA is for: after `ADD A,d8` of two packed decimal bytes it leaves their decimal sum mod 100, packed, and C exactly
when the sum is 100 or more; after `SUB d8` it leaves the difference mod 100, and C exactly when it is negative (R233's "decimal
adjust A after a BCD addition or subtraction"; the spec's decision D7; log 26). -/
def Obligations.DecimalAdjustAfterAddAndSub : Prop :=
  ∀ (x y u v : Fin 10) (s : State),
    let packed (n : Nat) : Byte := BitVec.ofNat 8 (16 * (n / 10 % 10) + n % 10)
    let m := 10 * x.val + y.val
    let n := 10 * u.val + v.val
    s.a = packed m →
    (∃ t w, exec (.addAD8 (packed n)) s = .next t ∧ exec .daa t = .next w ∧
      w.a = packed ((m + n) % 100) ∧ w.flagC = decide (m + n ≥ 100)) ∧
    (∃ t w, exec (.subD8 (packed n)) s = .next t ∧ exec .daa t = .next w ∧
      w.a = packed ((100 + m - n) % 100) ∧ w.flagC = decide (m < n))

/-! ## 16-bit arithmetic (R260 to R264) -/

/-- `INC rr`, `DEC rr`: one more or one less mod 2^16, no flag, even on wrap (R261, R262). Covers the 8 rows. -/
def Obligations.PairIncrementDecrement : Prop :=
  ∀ (p : Pair) (s : State),
    encode (Form.incPair p).row = [BitVec.ofNat 8 (0x03 + 16 * p.code)] ∧
    exec (Form.incPair p).row s = .next ((s.past 1 8).setPair p (s.pair p + 1)) ∧
    encode (Form.decPair p).row = [BitVec.ofNat 8 (0x0B + 16 * p.code)] ∧
    exec (Form.decPair p).row s = .next ((s.past 1 8).setPair p (s.pair p - 1))

/-- `ADD HL,rr`: the sum mod 2^16, Z unchanged, N 0, H and C the carries out of bits 11 and 15. `ADD SP,r8`, `LD HL,SP+r8`: SP
plus the signed byte mod 2^16; Z and N 0; H and C the carries of the unsigned addition of the low byte of SP and the raw byte.
The rules R260, R263, R264 are or carry the spec's decisions D5, D6 (log 26). Covers those 6 rows. -/
def Obligations.WordAdditions : Prop :=
  (∀ (p : Pair) (s : State),
    encode (Form.addHl p).row = [BitVec.ofNat 8 (0x09 + 16 * p.code)] ∧
    exec (Form.addHl p).row s = .next
      { (s.past 1 8).setHl (s.hl + s.pair p) with
        f := packFlags s.flagZ false (decide (s.hl.toNat % 0x1000 + (s.pair p).toNat % 0x1000 > 0x0FFF))
          (decide (s.hl.toNat + (s.pair p).toNat > 0xFFFF)) }) ∧
  (∀ (e : Byte) (s : State),
    let target : Word := BitVec.ofInt 16 (s.sp.toNat + (if e.toNat < 128 then (e.toNat : Int) else e.toNat - 256))
    let flags : Byte := packFlags false false (decide (s.sp.toNat % 16 + e.toNat % 16 > 0x0F))
      (decide (s.sp.toNat % 256 + e.toNat > 0xFF))
    encode (.addSpR8 e) = [0xE8, e] ∧ exec (.addSpR8 e) s = .next { s.past 2 16 with sp := target, f := flags } ∧
    encode (.ldHlSpPlusR8 e) = [0xF8, e] ∧
    exec (.ldHlSpPlusR8 e) s = .next { (s.past 2 12).setHl target with f := flags })

/-! ## Rotates and shifts (R280 to R283, R290 to R298) -/

/-- `RLCA`, `RLA`, `RRCA`, `RRA`, bit by bit: A moves one place, the bit shifted out goes to C, the bit shifted in is that bit or
the carry before; Z, N and H are 0 whatever the result (R280, R281, R282, R283). Which mnemonic is which rotation, but for RLA, is
the spec's general knowledge (G4, G5; log 26). -/
def Obligations.AccumulatorRotates : Prop :=
  ∀ s : State,
    let left (low : Bool) : Byte := BitVec.ofNat 8 (2 * s.a.toNat % 256 + low.toNat)
    let right (high : Bool) : Byte := BitVec.ofNat 8 (s.a.toNat / 2 + 128 * high.toNat)
    let out7 : Byte := packFlags false false false (s.a.getLsbD 7)
    let out0 : Byte := packFlags false false false (s.a.getLsbD 0)
    encode .rlca = [0x07] ∧ exec .rlca s = .next { s.past 1 4 with a := left (s.a.getLsbD 7), f := out7 } ∧
    encode .rla = [0x17] ∧ exec .rla s = .next { s.past 1 4 with a := left s.flagC, f := out7 } ∧
    encode .rrca = [0x0F] ∧ exec .rrca s = .next { s.past 1 4 with a := right (s.a.getLsbD 0), f := out0 } ∧
    encode .rra = [0x1F] ∧ exec .rra s = .next { s.past 1 4 with a := right s.flagC, f := out0 }

/-- The second page's rotates, shifts and SWAP, in integer arithmetic: the operand is read once and written back to the same
place; Z from the result, N and H 0, C the bit shifted out (0 for SWAP), whatever the write then does (R290 to R298; the order
of the operations, N, H and SWAP's C are the spec's decision D4; log 26). Covers the 64 rows. -/
def Obligations.SecondPageShifts : Prop :=
  ∀ (op : Rot) (x : R8) (s : State),
    let v : Nat := (s.operand x).toNat
    let top : Nat := v / 128
    let low : Nat := v % 2
    let result : Nat :=
      match op with
      | .rlc => 2 * v % 256 + top
      | .rrc => v / 2 + 128 * low
      | .rl => 2 * v % 256 + s.flagC.toNat
      | .rr => v / 2 + 128 * s.flagC.toNat
      | .sla => 2 * v % 256
      | .sra => v / 2 + 128 * top
      | .swap => v % 16 * 16 + v / 16
      | .srl => v / 2
    let out : Bool :=
      match op with
      | .rlc | .rl | .sla => decide (top = 1)
      | .rrc | .rr | .sra | .srl => decide (low = 1)
      | .swap => false
    encode (Form.cbRot op x).row = [0xCB, BitVec.ofNat 8 (8 * op.code + x.code)] ∧
    exec (Form.cbRot op x).row s = .next
      { writeR8 x (BitVec.ofNat 8 result) ((s.afterRead x).past 2 (r8Cycles x 8 16)) with
        f := packFlags (decide (result = 0)) false false out }

/-- `BIT b,x`: Z the inverted bit, N 0, H 1, C unchanged, the operand not written (R310). Covers the 64 rows. -/
def Obligations.BitTest : Prop :=
  ∀ (b : Fin 8) (x : R8) (s : State),
    encode (Form.bit b x).row = [0xCB, BitVec.ofNat 8 (0x40 + 8 * b.val + x.code)] ∧
    exec (Form.bit b x).row s = .next
      { (s.afterRead x).past 2 (r8Cycles x 8 12) with
        f := packFlags (!(s.operand x).getLsbD b.val) false true s.flagC }

/-- `RES b,x`, `SET b,x`: the operand with that bit 0, or 1, and every other bit as it was, written back; no flag (R311, R312).
Covers the 128 rows. -/
def Obligations.BitResetAndSet : Prop :=
  ∀ (b : Fin 8) (x : R8) (s : State),
    encode (Form.res b x).row = [0xCB, BitVec.ofNat 8 (0x80 + 8 * b.val + x.code)] ∧
    encode (Form.set b x).row = [0xCB, BitVec.ofNat 8 (0xC0 + 8 * b.val + x.code)] ∧
    ∃ cleared raised : Byte,
      (∀ k < 8, cleared.getLsbD k = (decide (k ≠ b.val) && (s.operand x).getLsbD k)) ∧
      (∀ k < 8, raised.getLsbD k = (decide (k = b.val) || (s.operand x).getLsbD k)) ∧
      exec (Form.res b x).row s = .next (writeR8 x cleared ((s.afterRead x).past 2 (r8Cycles x 8 16))) ∧
      exec (Form.set b x).row s = .next (writeR8 x raised ((s.afterRead x).past 2 (r8Cycles x 8 16)))

/-! ## Jumps, calls, returns (R320 to R331) -/

/-- `JP a16`, `JP cc,a16`, `JP (HL)`: PC alone changes; NZ, Z, NC, C test Z and the carry flag only; not taken, PC goes past the
three bytes and the cost is 12 instead of 16 (R320, R321, R322, R323). `JP (HL)` and the conditions but Z are the spec's general
knowledge (R320, R323, G1, G4; log 25, log 26). Covers those 6 rows. -/
def Obligations.AbsoluteJumps : Prop :=
  ∀ (w : Word) (s : State),
    (s.cond .nz = !s.flagZ ∧ s.cond .z = s.flagZ ∧ s.cond .nc = !s.flagC ∧ s.cond .c = s.flagC) ∧
    encode (.jpA16 w) = [0xC3, loByte w, hiByte w] ∧ exec (.jpA16 w) s = .next { s.past 3 16 with pc := w } ∧
    (∀ cc : Cond, encode (Form.jpCc cc w).row = [BitVec.ofNat 8 (0xC2 + 8 * cc.code), loByte w, hiByte w] ∧
      exec (Form.jpCc cc w).row s = .next (if s.cond cc then { s.past 3 16 with pc := w } else s.past 3 12)) ∧
    encode .jpMemHl = [0xE9] ∧ exec .jpMemHl s = .next { s.past 1 4 with pc := s.hl }

/-- `JR r8`, `JR cc,r8`: PC past the two bytes plus the signed byte, mod 2^16, on integers; 12 cycles taken, 8 not (R324, R325).
Covers those 5 rows. -/
def Obligations.RelativeJumps : Prop :=
  ∀ (e : Byte) (s : State),
    let target : Word := BitVec.ofInt 16 (s.pc.toNat + 2 + (if e.toNat < 128 then (e.toNat : Int) else e.toNat - 256))
    encode (.jrR8 e) = [0x18, e] ∧ exec (.jrR8 e) s = .next { s.past 2 12 with pc := target } ∧
    (∀ cc : Cond, encode (Form.jrCc cc e).row = [BitVec.ofNat 8 (0x20 + 8 * cc.code), e] ∧
      exec (Form.jrCc cc e).row s = .next (if s.cond cc then { s.past 2 12 with pc := target } else s.past 2 8))

/-- `CALL a16`, `CALL cc,a16`, `RST n`: the address after the instruction goes to the stack, high byte at SP - 1, low byte at
SP - 2, SP is 2 lower, PC is the target, 8 t for RST; not taken, only PC and the cycles move (R326, R327, R331). The order of the
push's writes and the wrap of SP are the spec's decisions D25, D21 (log 14, log 35). Covers those 13 rows. -/
def Obligations.CallsAndRestarts : Prop :=
  ∀ s : State,
    let call (len cycles : Nat) (target : Word) : State :=
      { (s.past len cycles).afterPush (s.pc + BitVec.ofNat 16 len) with pc := target }
    (∀ w : Word, encode (.callA16 w) = [0xCD, loByte w, hiByte w] ∧ exec (.callA16 w) s = .next (call 3 24 w)) ∧
    (∀ (cc : Cond) (w : Word), encode (Form.callCc cc w).row = [BitVec.ofNat 8 (0xC4 + 8 * cc.code), loByte w, hiByte w] ∧
      exec (Form.callCc cc w).row s = .next (if s.cond cc then call 3 24 w else s.past 3 12)) ∧
    (∀ t : Fin 8, encode (Form.rst t).row = [BitVec.ofNat 8 (0xC7 + 8 * t.val)] ∧
      exec (Form.rst t).row s = .next (call 1 16 (BitVec.ofNat 16 (8 * t.val))))

/-- `RET`, `RET cc`: PC from the stack, low byte first, SP 2 higher; not taken, no stack access (R328, R329). The wrap of SP is
the spec's decision D21 (log 35). Covers those 5 rows. -/
def Obligations.Returns : Prop :=
  ∀ s : State,
    encode .ret = [0xC9] ∧ exec .ret s = .next { s.afterPop.past 1 16 with pc := s.stackWord } ∧
    (∀ cc : Cond, encode (Form.retCc cc).row = [BitVec.ofNat 8 (0xC0 + 8 * cc.code)] ∧
      exec (Form.retCc cc).row s =
        .next (if s.cond cc then { s.afterPop.past 1 20 with pc := s.stackWord } else s.past 1 8))

/-- "`PUSH rr; POP rr'` with no intervening SP change: `rr' == rr` and SP unchanged" (R201), and "`CALL a; RET` restores PC to the
instruction after CALL and leaves SP unchanged" (R326), where the two stack bytes lie in read/write storage that keeps what is
written to it (R97). F's bits 3 to 0 are lost on the way into AF, as R208 says; they are 0 in every state a run reaches (R24). -/
def Obligations.StackRoundTrips : Prop :=
  ∀ s : State, Memory.wf s.ram →
    (∃ k, cellOf (s.sp - 1) = some k ∧ k ≠ lyAddr) → (∃ k, cellOf (s.sp - 2) = some k ∧ k ≠ lyAddr) →
    (∀ p q : StackPair, ∃ t u, exec (Form.push p).row s = .next t ∧ exec (Form.pop q).row t = .next u ∧ u.sp = s.sp ∧
      u.stackPair q = if q = .af then s.stackPair p &&& 0xFFF0 else s.stackPair p) ∧
    (∀ w : Word, ∃ t u, exec (.callA16 w) s = .next t ∧ t.pc = w ∧ exec .ret t = .next u ∧ u.pc = s.pc + 3 ∧ u.sp = s.sp)

/-- `RETI`: PC from the stack, IME set at once, a pending EI absorbed, nothing else restored (R330, which is the spec's decision
D31; log 26). -/
def Obligations.ReturnFromInterrupt : Prop :=
  ∀ s : State, encode .reti = [0xD9] ∧
    exec .reti s = .next { s.afterPop.past 1 16 with pc := s.stackWord, ime := true, imeSched := false }

/-! ## Control (R350 to R355) -/

/-- `NOP` changes PC and the cycle counter only; `HALT` also enters HALTED with PC at the byte after it (R350, R351); `STOP`
takes two bytes, ignores the second, and enters STOPPED (R352, the spec's decision D11; log 17). `DI` clears IME and a pending EI
at once; `EI` leaves IME and arms its delayed effect (R353, R354, whose mechanism is the spec's decision D10; log 15). -/
def Obligations.ControlInstructions : Prop :=
  ∀ s : State,
    encode .nop = [0x00] ∧ exec .nop s = .next (s.past 1 4) ∧
    encode .halt = [0x76] ∧ exec .halt s = .next { s.past 1 4 with runState := .halted } ∧
    (∀ pad : Byte, encode (.stop pad) = [0x10, pad] ∧ exec (.stop pad) s = .next { s.past 2 4 with runState := .stopped }) ∧
    encode .di = [0xF3] ∧ exec .di s = .next { s.past 1 4 with ime := false, imeSched := false } ∧
    encode .ei = [0xFB] ∧ exec .ei s = .next { s.past 1 4 with imeSched := true }

/-- An undefined first byte raises IllegalOpcode with its own address and value: the record is kept and the CPU is FAULTED; PC
stays at the byte, and no register, flag, memory byte or counter changes; every step from then on answers that fault (R355, R400
step 1, R410, U1, U2: the spec's decision D26; log 2). Covers the 11 rows. -/
def Obligations.UndefinedByteFaults : Prop :=
  ∀ (u : Undefined) (s : State),
    encode (Form.undefined u).row = [u.byte] ∧
    ∃ t, exec (Form.undefined u).row s = .next t ∧ t = { s with fault := some ⟨s.pc, u.byte⟩, runState := .faulted } ∧
      step t = .fault (.illegalOpcode s.pc u.byte)

/-! ## The frame: what an instruction leaves unchanged -/

/-- Every register but those the form's rule writes, and SP but for what the rule does to it, is unchanged by any instruction
(R20, R22, R28). The bare prefix counts as the row of its second byte. -/
def Obligations.RegisterFrame : Prop :=
  ∀ (f : Form) (s t : State), exec f.row s = .next t →
    (∀ r : Reg, (f.actsAs s).writesReg r = false → t.reg r = s.reg r) ∧ t.sp = (f.actsAs s).spAfter s

/-- The flag table R55 as far as it is fixed: a flag with `-` is left, with `0` cleared, with `1` set; F's bits 3 to 0 stay 0;
an instruction whose four entries are all `-` leaves F itself. -/
def Obligations.FlagFrame : Prop :=
  ∀ (f : Form) (s t : State), exec f.row s = .next t →
    (∀ fl : Flag, match (f.actsAs s).flagEntry fl with
      | .leave => t.flag fl = s.flag fl
      | .clear => t.flag fl = false
      | .set => t.flag fl = true
      | .compute => True) ∧
    (s.f &&& 0x0F = 0 → t.f &&& 0x0F = 0) ∧
    ((∀ fl : Flag, (f.actsAs s).flagEntry fl = .leave) → t.f = s.f)

/-- IME and the pending EI change by DI, EI and RETI only, the run state by HALT, STOP and an undefined byte only, the fault
record by an undefined byte only; no instruction touches the images, the LCD controller's and the Machine's own state, or the
host's inputs (R30, R31, R32, R34, R47, R48). -/
def Obligations.ControlStateFrame : Prop :=
  ∀ (f : Form) (s t : State), exec f.row s = .next t →
    (t.ime, t.imeSched) = (f.actsAs s).imeAfter s ∧
    t.runState = (f.actsAs s).runAfter s ∧
    ((∀ u, f.actsAs s ≠ .undefined u) → t.fault = s.fault) ∧
    t.bootRom = s.bootRom ∧ t.cart = s.cart ∧ t.lcdAcc = s.lcdAcc ∧ t.frameReady = s.frameReady ∧
    t.cyclesThisFrame = s.cyclesThisFrame ∧ t.buttonEvents = s.buttonEvents ∧ t.ticks = s.ticks

/-- Every byte of memory reads as before, except through the storage cells of the addresses the form stores to. The overlay
0x0000 to 0x00FF reads as before unless the form stores to 0xFF50. Reads of 0xFEA0 to 0xFEFF are free values (log 7) and are no
storage. The stored-to addresses are those of `Form.stores`, computed in the state before the instruction, for the bare prefix
as for the row of its second byte. -/
def Obligations.MemoryFrame : Prop :=
  ∀ (f : Form) (s t : State), Memory.wf s.ram → exec f.row s = .next t →
    ∀ a : Word, regionOf a ≠ .unusable →
      (∀ b ∈ (f.actsAs s).stores s, ∀ k, cellOf a = some k → cellOf b ≠ some k) →
      (a.toNat < 0x100 → ∀ b ∈ (f.actsAs s).stores s, b.toNat ≠ bootAddr) →
      t.peek a = s.peek a

/-- The cycles an instruction counts are those of the cycle tables (R490, R491: the spec's general knowledge and decision D2;
log 25), and it always answers a next state: no instruction faults or is refused as such. -/
def Obligations.EveryInstructionAnswers : Prop :=
  ∀ (f : Form) (s : State), ∃ t, exec f.row s = .next t ∧ t.cycleCounter = s.cycleCounter + (f.actsAs s).cycles s

/-! ## The bus (R70 to R97) -/

/-- What a read of each region returns (R75, R76, R77 to R86): the overlay or the cartridge, 0xFF from the external window, the
echo's cell, the next free value in 0xFEA0 to 0xFEFF, which uses it up (R83; the spec's decision D15; log 7), and the storage byte
of the address elsewhere. A read outside 0xFEA0 to 0xFEFF changes no state (R94). -/
def Obligations.BusReadsByRegion : Prop :=
  ∀ (s : State) (a : Word),
    (a.toNat < 0x100 → s.peek a = if s.bootUnmap then s.cartByte a.toNat else s.bootByte a.toNat) ∧
    (0x100 ≤ a.toNat ∧ a.toNat < 0x8000 → s.peek a = s.cartByte a.toNat) ∧
    (0xA000 ≤ a.toNat ∧ a.toNat < 0xC000 → s.peek a = 0xFF) ∧
    (0xE000 ≤ a.toNat ∧ a.toNat < 0xFE00 → s.peek a = s.peek (a - 0x2000)) ∧
    ((0x8000 ≤ a.toNat ∧ a.toNat < 0xA000) ∨ (0xC000 ≤ a.toNat ∧ a.toNat < 0xE000) ∨
      (0xFE00 ≤ a.toNat ∧ a.toNat < 0xFEA0) ∨ 0xFF00 ≤ a.toNat → s.peek a = Memory.load s.ram a.toNat) ∧
    (0xFEA0 ≤ a.toNat ∧ a.toNat < 0xFF00 → s.peek a = Config.unusableRead s.draws ∧
      readByte a s = (Config.unusableRead s.draws, { s with draws := s.draws + 1 })) ∧
    (a.toNat < 0xFEA0 ∨ 0xFF00 ≤ a.toNat → readByte a s = (s.peek a, s))

/-- What a write to each region does (R75, R77 to R86, R90, R92, R93): ROM, the external window and the gap discard it; an
address with storage then reads as the byte written, but LY, which reads 0; every address whose storage is another reads as
before, the overlay where the latch does not change; and the latch is set exactly by a write to 0xFF50 with bit 0 set, and never
cleared. The gap, the external window, LY and the latch rest on the spec's decisions D15, D16, D17, D18 (log 7, log 21, log 18,
log 19). -/
def Obligations.BusWritesByRegion : Prop :=
  ∀ (s : State) (a : Word) (v : Byte), Memory.wf s.ram →
    (cellOf a = none ↔ a.toNat < 0x8000 ∨ (0xA000 ≤ a.toNat ∧ a.toNat < 0xC000) ∨ (0xFEA0 ≤ a.toNat ∧ a.toNat < 0xFF00)) ∧
    (cellOf a = none → writeByte a v s = s) ∧
    (cellOf a ≠ none → (writeByte a v s).peek a = if a.toNat = 0xFF44 then 0x00 else v) ∧
    (∀ b : Word, regionOf b ≠ .unusable → (∀ k, cellOf b = some k → cellOf a ≠ some k) →
      (b.toNat < 0x100 → (writeByte a v s).bootUnmap = s.bootUnmap) → (writeByte a v s).peek b = s.peek b) ∧
    (writeByte a v s).bootUnmap = (s.bootUnmap || (decide (a.toNat = 0xFF50) && v.getLsbD 0))

/-- "for `a` in `0xE000..=0xFDFF`, `read_byte(a) == read_byte(a - 0x2000)` after any write to either"; the top 512 bytes of work
RAM, 0xDE00 to 0xDFFF, have no echo (R81). -/
def Obligations.EchoMirrorsWorkRam : Prop :=
  ∀ (s : State) (a : Word) (v : Byte), Memory.wf s.ram → 0xE000 ≤ a.toNat → a.toNat ≤ 0xFDFF →
    (writeByte a v s).peek (a - 0x2000) = v ∧ (writeByte (a - 0x2000) v s).peek a = v ∧
    (writeByte a v s).peek a = v ∧ (writeByte (a - 0x2000) v s).peek (a - 0x2000) = v ∧
    ∀ b : Word, 0xDE00 ≤ b.toNat → b.toNat ≤ 0xDFFF → (writeByte b v s).peek a = s.peek a

/-- A word written and read back is the word, low byte at the lower address, for every address of R96's corrected range; in the
external window both bytes read 0xFF (R72, R73, R96, 90_conflicts.md C5). -/
def Obligations.WordRoundTrip : Prop :=
  ∀ (s : State) (a w : Word), Memory.wf s.ram →
    ((0x8000 ≤ a.toNat ∧ a.toNat ≤ 0x9FFE) ∨ (0xC000 ≤ a.toNat ∧ a.toNat ≤ 0xDFFE) →
      (readWord a (writeWord a w s)).1 = w ∧ (writeWord a w s).peek a = loByte w ∧
      (writeWord a w s).peek (a + 1) = hiByte w) ∧
    (0xA000 ≤ a.toNat ∧ a.toNat ≤ 0xBFFE → (readWord a (writeWord a w s)).1 = 0xFFFF)

/-! ## Steps of the CPU (R400 to R424) -/

/-- The interrupt check takes the lowest request that is pending and enabled, before any fetch, when IME is set: its IF bit, IME
and a pending EI are cleared, PC goes to the stack, PC becomes 0x0040 + 8k, 20 cycles; every register, flag and other request is
as it was, for either value of `HALT_WAKE_NEEDS_IE`. The order inside, the bit-to-vector map and the priority are the spec's
decisions D32, D20, D19 (log 27, log 22). -/
def Obligations.InterruptDispatch : Prop :=
  ∀ (s : State) (k : Nat) (needsIe button : Bool),
    s.runState = .running → s.ime = true → k < 5 → s.ifReg.getLsbD k = true → s.ieReg.getLsbD k = true →
    (∀ j < k, (s.ifReg.getLsbD j && s.ieReg.getLsbD j) = false) →
    cpuStep needsIe button s = .next
      { ({ s with ram := Memory.store s.ram 0xFF0F (s.ifReg &&& ~~~((1 : Byte) <<< k)), ime := false,
                  imeSched := false } : State).afterPush s.pc with
        pc := BitVec.ofNat 16 (0x40 + 8 * k), cycleCounter := s.cycleCounter + 20 }

/-- No interrupt is taken when IME is clear or no request of bits 0 to 4 is both pending and enabled, whatever bits 5 to 7 hold:
a RUNNING CPU then executes the instruction at PC (R420, R421; D19; log 22). -/
def Obligations.NoInterruptWithoutRequest : Prop :=
  ∀ (s : State) (needsIe button : Bool), s.runState = .running →
    (s.ime = false ∨ ∀ k < 5, (s.ifReg.getLsbD k && s.ieReg.getLsbD k) = false) →
    cpuStep needsIe button s = exec (fetchInstr (promoteEi s)).1 (fetchInstr (promoteEi s)).2

/-- The instruction after an EI runs before any interrupt, with IME already set: with IME clear and an EI pending, whatever is
requested, the step runs the instruction at PC in the state with IME set (R354, R400 steps 4 and 5; D10; log 15). -/
def Obligations.EnableTakesEffectAfterNext : Prop :=
  ∀ (s : State) (needsIe button : Bool), s.runState = .running → s.ime = false → s.imeSched = true →
    cpuStep needsIe button s = exec (fetchInstr { s with ime := true, imeSched := false }).1
      (fetchInstr { s with ime := true, imeSched := false }).2

/-- HALTED: with no request to wake it a step counts 4 cycles and changes nothing else; with one, it goes on as a RUNNING step in
the same call. A request wakes it where the bit of IF is set, enabled or not, and, with `HALT_WAKE_NEEDS_IE` true, the bit of IE
too; `step` takes the parameter's decided value, false (R8, R403; D8, D9; log 9, log 16). STOPPED: the same by `button_event`,
whatever is requested (R404; D11; log 17). -/
def Obligations.IdlesUntilWoken : Prop :=
  ∀ (s : State) (needsIe button : Bool),
    let wakes (k : Nat) : Bool := s.ifReg.getLsbD k && (!needsIe || s.ieReg.getLsbD k)
    (s.runState = .halted → (∀ k < 5, wakes k = false) →
      cpuStep needsIe button s = .next { s with cycleCounter := s.cycleCounter + 4 }) ∧
    (s.runState = .halted → (∃ k < 5, wakes k = true) →
      cpuStep needsIe button s = cpuStep needsIe button { s with runState := .running }) ∧
    (s.runState = .stopped → button = false →
      cpuStep needsIe button s = .next { s with cycleCounter := s.cycleCounter + 4 }) ∧
    (s.runState = .stopped → button = true →
      cpuStep needsIe button s = cpuStep needsIe button { s with runState := .running }) ∧
    step s = systemStep false (takeButton s).1 (takeButton s).2

/-- A CPU step that does not fault returns 4, 8, 12, 16, 20 or 24 cycles; one that faults returns none and leaves PC (R400, R410;
D2, D26; log 25, log 2). -/
def Obligations.StepReturnsListedCycles : Prop :=
  ∀ (s t : State) (needsIe button : Bool), cpuStep needsIe button s = .next t →
    (t.runState ≠ .faulted → t.cycleCounter - s.cycleCounter ∈ [4, 8, 12, 16, 20, 24] ∧ s.cycleCounter ≤ t.cycleCounter) ∧
    (t.runState = .faulted → t.cycleCounter = s.cycleCounter ∧ t.pc = s.pc)

/-- Only an undefined byte fetched as the first byte of an instruction faults: a machine that is not FAULTED always steps, and if
it is FAULTED after the step, the byte recorded, at the PC recorded, is one of the eleven (R411). That the faulting step answers a
next state and leaves PC at the byte is the spec's decision D26 (R410; log 2). -/
def Obligations.OnlyUndefinedBytesFault : Prop :=
  ∀ s : State, s.runState ≠ .faulted →
    ∃ t, step s = .next t ∧
      (t.runState = .faulted → ∃ b, t.fault = some ⟨s.pc, b⟩ ∧ t.pc = s.pc ∧ b = (promoteEi s).peek s.pc ∧
        b ∈ ([0xD3, 0xDB, 0xDD, 0xE3, 0xE4, 0xEB, 0xEC, 0xED, 0xF4, 0xFC, 0xFD] : List Byte))

/-! ## The LCD controller (R440 to R446) -/

/-- The schedule in closed form: `LcdStep(n)` from a line in range passes `(lcd_acc + n) / 456` lines, LY counts them mod 154,
the rest stays accumulated, and `frame_ready` is set exactly when it was, or the wrap from 153 to 0 was passed (R440, R442; D22,
D30, D38; log 20, log 33). -/
def Obligations.ScanlineSchedule : Prop :=
  ∀ (n : Nat) (s : State), Memory.wf s.ram → s.ly.toNat ≤ 153 →
    (lcdStep n s).ly.toNat = (s.ly.toNat + (s.lcdAcc + n) / 456) % 154 ∧
    (lcdStep n s).lcdAcc = (s.lcdAcc + n) % 456 ∧
    ((lcdStep n s).frameReady = true ↔ s.frameReady = true ∨ s.ly.toNat + (s.lcdAcc + n) / 456 ≥ 154)

/-- The V-blank request: after a call that passes any number of lines, bit 0 of IF is set exactly when it was, or a line 144 was
entered; the other seven bits of IF are kept, and a CPU write to LY leaves IF as it is (R441). -/
def Obligations.VblankRequest : Prop :=
  ∀ (n : Nat) (s : State), Memory.wf s.ram → s.ly.toNat ≤ 153 →
    ((lcdStep n s).ifReg.getLsbD 0 = true ↔
      s.ifReg.getLsbD 0 = true ∨ ∃ j, 1 ≤ j ∧ j ≤ (s.lcdAcc + n) / 456 ∧ (s.ly.toNat + j) % 154 = 144) ∧
    (∀ k, 0 < k → (lcdStep n s).ifReg.getLsbD k = s.ifReg.getLsbD k) ∧
    ∀ v : Byte, (writeByte 0xFF44 v s).ifReg = s.ifReg

/-- "The LCD mutates LY (0xFF44) and bit 0 of IF (0xFF0F)" and nothing else but its own `lcd_acc` and `frame_ready` (R106). -/
def Obligations.LcdTouchesNothingElse : Prop :=
  ∀ (n : Nat) (s : State), Memory.wf s.ram →
    (∀ a : Word, a.toNat ≠ 0xFF44 → a.toNat ≠ 0xFF0F → (lcdStep n s).peek a = s.peek a) ∧
    (∀ k, 0 < k → ((lcdStep n s).peek 0xFF0F).getLsbD k = (s.peek 0xFF0F).getLsbD k) ∧
    lcdStep n s = { s with
      ram := (lcdStep n s).ram, lcdAcc := (lcdStep n s).lcdAcc, frameReady := (lcdStep n s).frameReady }

/-- The decoded tile: pixel `c` of row `r` has bit 1 from bit 7 - c of the row's second byte and bit 0 from that of its first,
read through the bus; so all-zero bytes give zeros and all-0xFF bytes give threes (R443). -/
def Obligations.TileDecode : Prop :=
  ∀ (s : State) (base : Word), 0x8000 ≤ base.toNat → base.toNat + 16 ≤ 0xA000 →
    (decodeTile s base.toNat).length = 64 ∧
    ∀ r < 8, ∀ c < 8, ∃ p : Pixel, (decodeTile s base.toNat)[8 * r + c]? = some p ∧
      p.toNat = 2 * ((s.peek (base + BitVec.ofNat 16 (2 * r + 1))).getLsbD (7 - c)).toNat +
        ((s.peek (base + BitVec.ofNat 16 (2 * r))).getLsbD (7 - c)).toNat

/-- The frame is the 160 by 144 window of the background at (SCX, SCY), wrapped mod 256, and each background pixel is that of
the tile which the map at 0x9800 names for its 8 by 8 square (R444, R445; D22, D30; log 20, log 33). -/
def Obligations.FrameIsWindowOfBackground : Prop :=
  ∀ s : State,
    (composeBackground s).length = 256 ∧ (frame s).length = 144 ∧
    (∀ row < 256, ∀ col < 256, ∃ pixels p, (composeBackground s)[row]? = some pixels ∧ pixels[col]? = some p ∧ pixels.length = 256 ∧
      let tile := decodeTile s (0x8000 + 16 * (s.peek (BitVec.ofNat 16 (0x9800 + 32 * (row / 8) + col / 8))).toNat)
      tile[8 * (row % 8) + col % 8]? = some p) ∧
    (∀ y < 144, ∀ x < 160, ∃ pixels bgPixels p, (frame s)[y]? = some pixels ∧ pixels[x]? = some p ∧ pixels.length = 160 ∧
      (composeBackground s)[((s.peek 0xFF42).toNat + y) % 256]? = some bgPixels ∧
      bgPixels[((s.peek 0xFF43).toNat + x) % 256]? = some p)

/-! ## The Machine (R450, R451) and the host -/

/-- The LCD controller advances in lock-step: a system step is the CPU step followed by `LcdStep` of the cycles it counted; after
a faulting step the LCD controller is not advanced (R450; D23, D26; log 1). -/
def Obligations.LockStepWithLcd : Prop :=
  ∀ (s t : State) (needsIe button : Bool), cpuStep needsIe button s = .next t →
    (t.runState ≠ .faulted → systemStep needsIe button s = .next (lcdStep (t.cycleCounter - s.cycleCounter) t)) ∧
    (t.runState = .faulted → systemStep needsIe button s = .next t)

/-- `frame_step` takes system steps, each counted, until `cycles_this_frame` is 70224 or more, and no further; then it returns the
frame of the memory as it stands, with 70224 subtracted from the count: at most 20 cycles, all of those counted beyond 70224, are
carried over (R451, R446; D24; log 30). Or a step leads into FAULTED before that, and it answers the fault recorded there. From an
unfinished frame it always ends so, for either value of `HALT_WAKE_NEEDS_IE`. The excess is a multiple of 4 where the count was. -/
def Obligations.FrameStepEnds : Prop :=
  ∀ (needsIe : Bool) (s : State), s.Inv → s.cyclesThisFrame < 70224 → s.cyclesThisFrame % 4 = 0 →
    ∃ (n : Nat) (u : State), countedSteps needsIe n s = .next u ∧
      (∀ m < n, ∃ v, countedSteps needsIe m s = .next v ∧ v.cyclesThisFrame < 70224) ∧
      ((∃ t, t = { u with cyclesThisFrame := u.cyclesThisFrame - 70224 } ∧ frameStep needsIe s = .next (frame u, t) ∧
          s.cycleCounter ≤ t.cycleCounter ∧
          s.cyclesThisFrame + (t.cycleCounter - s.cycleCounter) = 70224 + t.cyclesThisFrame ∧
          t.cyclesThisFrame ≤ 20 ∧ t.cyclesThisFrame % 4 = 0) ∨
        (∃ pc byte, u.cyclesThisFrame < 70224 ∧ u.runState = .faulted ∧ u.fault = some ⟨pc, byte⟩ ∧
          frameStep needsIe s = .fault (.illegalOpcode pc byte)))

/-- Reset as the source gives it, for any `RAM_INIT`: all registers and flags zero, PC and SP zero, the boot-ROM overlay in place,
so the first fetch reads the first byte of the boot ROM (R60, R470, R471). -/
def Obligations.ResetZeroesRegisters : Prop :=
  ∀ ramInit : List Host.Cell,
    let s := State.resetWith ramInit
    (∀ r : Reg, s.reg r = 0) ∧ s.f = 0 ∧ s.pc = 0 ∧ s.sp = 0 ∧ s.bootUnmap = false ∧ s.peek s.pc = Config.bootRom 0

/-- Reset where the spec decides (D12, D13; log 23, log 6): interrupts off and none pending or enabled, RUNNING, no fault, every
counter 0, every I/O byte and IE 0; RAM holds what the parameter `RAM_INIT` says, which may be anything, and zero for the default,
`State.reset`. A reset by the host of any machine gives the same and keeps the two images. -/
def Obligations.ResetClearsTheRest : Prop :=
  (∀ (ramInit : List Host.Cell) (s : State),
    let t := s.hostReset ramInit
    t.ime = false ∧ t.imeSched = false ∧ t.runState = .running ∧ t.fault = none ∧ t.cycleCounter = 0 ∧ t.lcdAcc = 0 ∧
    t.frameReady = false ∧ t.cyclesThisFrame = 0 ∧ (∀ k, ramInitAddr k = false → Memory.load t.ram k = 0) ∧
    t.bootRom = s.bootRom ∧ t.cart = s.cart ∧
    ({ t with bootRom := [], cart := [], buttonEvents := [], draws := 0, ticks := 0 } : State) = State.resetWith ramInit) ∧
  (∀ contents : Nat → Byte, ∃ ramInit, ∀ k, ramInitAddr k = true →
    Memory.load (State.resetWith ramInit).ram k = contents k) ∧
  State.resetWith [] = State.reset ∧ ∀ k, Memory.load State.reset.ram k = 0

/-- The loader accepts an image exactly when it has 32768 or 65536 bytes, its type and RAM size bytes are 0x00 and its ROM size
byte is 0x00 or 0x01; a refused image gives no cartridge, and a machine is made of a cartridge only, whose bytes are then what the
bus reads (R100, R102, U7; that the size byte is not compared with the length is the spec's decision D27; log 4, log 31). -/
def Obligations.LoaderAcceptsExactly : Prop :=
  (∀ bytes : List Byte,
    ((∃ cart, loadCartridge bytes = .ok cart) ↔
      (bytes.length = 32768 ∨ bytes.length = 65536) ∧ bytes.getD 0x0147 0 = 0x00 ∧
        (bytes.getD 0x0148 0 = 0x00 ∨ bytes.getD 0x0148 0 = 0x01) ∧ bytes.getD 0x0149 0 = 0x00) ∧
    ∀ cart, loadCartridge bytes = .ok cart → cart.bytes = bytes) ∧
  ∀ (cart : Cartridge) (a : Word), a.toNat < 0x8000 →
    (∀ left, (State.postBoot left cart).peek a = cart.bytes.getD a.toNat 0) ∧
    ∀ ramInit bootRom, (State.cold ramInit bootRom cart).peek a =
      if a.toNat < 0x100 then bootRom.toList.getD a.toNat 0 else cart.bytes.getD a.toNat 0

/-! ## Invariants -/

/-- The invariant holds at reset, for any `RAM_INIT`; in the cold launch state, for any boot ROM and cartridge; and in the
post-boot launch state, for any cartridge and whatever the boot program left, where the host's check of the post-boot contract
finds nothing amiss (R60, R473, R474; what the contract leaves open is the spec's decision D28; log 6, log 23, log 32). -/
def Obligations.InvariantAtLaunch : Prop :=
  State.reset.Inv ∧
  ∀ (ramInit : List Host.Cell) (bootRom : BootRom) (cart : Cartridge) (left : BootLeavings),
    (State.resetWith ramInit).Inv ∧ (State.cold ramInit bootRom cart).Inv ∧
    (State.postBoot left cart).Inv ∧ postBootMismatches (State.postBoot left cart) = []

/-- Every step keeps the invariant: F's bits 3 to 0 are 0, the storage is in its canonical form and lists storage addresses only,
the images keep their sizes and the cartridge its accepted header, 0 <= lcd_acc < 456, 0 <= LY <= 153, a stored bit 0 of 0xFF50
means the overlay is gone, and the fault record stands exactly in FAULTED (R24, R36, R42, R47, R33, R34, R100, R102). The same
holds of the step with the other value of `HALT_WAKE_NEEDS_IE` (R8). -/
def Obligations.StepKeepsInvariant : Prop :=
  ∀ s t : State, s.Inv → (step s = .next t → t.Inv) ∧ ∀ needsIe, machineStep needsIe s = .next t → t.Inv

/-- What no step can do: put the overlay back, change the boot ROM or the cartridge, or lower the cycle counter (R33, R36, R77,
R35). -/
def Obligations.StepNeverUndoes : Prop :=
  ∀ s t : State, step s = .next t →
    (s.bootUnmap = true → t.bootUnmap = true) ∧ t.bootRom = s.bootRom ∧ t.cart = s.cart ∧
    s.cycleCounter ≤ t.cycleCounter
end

