-- ==== Sys2Proof/Laws/State.lean ====
section
/-! SUPPORT. One lemma per field per named update of the state, so that no proof unfolds an update. -/

namespace Sys2Proof.Machine

/-! `advance` moves PC only -/

@[simp] theorem State.advance_a (s : State) (n : Nat) : (s.advance n).a = s.a := rfl
@[simp] theorem State.advance_f (s : State) (n : Nat) : (s.advance n).f = s.f := rfl
@[simp] theorem State.advance_b (s : State) (n : Nat) : (s.advance n).b = s.b := rfl
@[simp] theorem State.advance_c (s : State) (n : Nat) : (s.advance n).c = s.c := rfl
@[simp] theorem State.advance_d (s : State) (n : Nat) : (s.advance n).d = s.d := rfl
@[simp] theorem State.advance_e (s : State) (n : Nat) : (s.advance n).e = s.e := rfl
@[simp] theorem State.advance_h (s : State) (n : Nat) : (s.advance n).h = s.h := rfl
@[simp] theorem State.advance_l (s : State) (n : Nat) : (s.advance n).l = s.l := rfl
@[simp] theorem State.advance_pc (s : State) (n : Nat) : (s.advance n).pc = s.pc + BitVec.ofNat 16 n := rfl
@[simp] theorem State.advance_sp (s : State) (n : Nat) : (s.advance n).sp = s.sp := rfl
@[simp] theorem State.advance_ime (s : State) (n : Nat) : (s.advance n).ime = s.ime := rfl
@[simp] theorem State.advance_imeSched (s : State) (n : Nat) : (s.advance n).imeSched = s.imeSched := rfl
@[simp] theorem State.advance_runState (s : State) (n : Nat) : (s.advance n).runState = s.runState := rfl
@[simp] theorem State.advance_fault (s : State) (n : Nat) : (s.advance n).fault = s.fault := rfl
@[simp] theorem State.advance_cycleCounter (s : State) (n : Nat) : (s.advance n).cycleCounter = s.cycleCounter := rfl
@[simp] theorem State.advance_bootUnmap (s : State) (n : Nat) : (s.advance n).bootUnmap = s.bootUnmap := rfl
@[simp] theorem State.advance_bootRom (s : State) (n : Nat) : (s.advance n).bootRom = s.bootRom := rfl
@[simp] theorem State.advance_cart (s : State) (n : Nat) : (s.advance n).cart = s.cart := rfl
@[simp] theorem State.advance_ram (s : State) (n : Nat) : (s.advance n).ram = s.ram := rfl
@[simp] theorem State.advance_lcdAcc (s : State) (n : Nat) : (s.advance n).lcdAcc = s.lcdAcc := rfl
@[simp] theorem State.advance_frameReady (s : State) (n : Nat) : (s.advance n).frameReady = s.frameReady := rfl
@[simp] theorem State.advance_cyclesThisFrame (s : State) (n : Nat) : (s.advance n).cyclesThisFrame = s.cyclesThisFrame := rfl
@[simp] theorem State.advance_buttonEvents (s : State) (n : Nat) : (s.advance n).buttonEvents = s.buttonEvents := rfl
@[simp] theorem State.advance_draws (s : State) (n : Nat) : (s.advance n).draws = s.draws := rfl
@[simp] theorem State.advance_ticks (s : State) (n : Nat) : (s.advance n).ticks = s.ticks := rfl

/-! `jump` moves PC only -/

@[simp] theorem State.jump_a (s : State) (w : Word) : (s.jump w).a = s.a := rfl
@[simp] theorem State.jump_f (s : State) (w : Word) : (s.jump w).f = s.f := rfl
@[simp] theorem State.jump_b (s : State) (w : Word) : (s.jump w).b = s.b := rfl
@[simp] theorem State.jump_c (s : State) (w : Word) : (s.jump w).c = s.c := rfl
@[simp] theorem State.jump_d (s : State) (w : Word) : (s.jump w).d = s.d := rfl
@[simp] theorem State.jump_e (s : State) (w : Word) : (s.jump w).e = s.e := rfl
@[simp] theorem State.jump_h (s : State) (w : Word) : (s.jump w).h = s.h := rfl
@[simp] theorem State.jump_l (s : State) (w : Word) : (s.jump w).l = s.l := rfl
@[simp] theorem State.jump_pc (s : State) (w : Word) : (s.jump w).pc = w := rfl
@[simp] theorem State.jump_sp (s : State) (w : Word) : (s.jump w).sp = s.sp := rfl
@[simp] theorem State.jump_ime (s : State) (w : Word) : (s.jump w).ime = s.ime := rfl
@[simp] theorem State.jump_imeSched (s : State) (w : Word) : (s.jump w).imeSched = s.imeSched := rfl
@[simp] theorem State.jump_runState (s : State) (w : Word) : (s.jump w).runState = s.runState := rfl
@[simp] theorem State.jump_fault (s : State) (w : Word) : (s.jump w).fault = s.fault := rfl
@[simp] theorem State.jump_cycleCounter (s : State) (w : Word) : (s.jump w).cycleCounter = s.cycleCounter := rfl
@[simp] theorem State.jump_bootUnmap (s : State) (w : Word) : (s.jump w).bootUnmap = s.bootUnmap := rfl
@[simp] theorem State.jump_bootRom (s : State) (w : Word) : (s.jump w).bootRom = s.bootRom := rfl
@[simp] theorem State.jump_cart (s : State) (w : Word) : (s.jump w).cart = s.cart := rfl
@[simp] theorem State.jump_ram (s : State) (w : Word) : (s.jump w).ram = s.ram := rfl
@[simp] theorem State.jump_lcdAcc (s : State) (w : Word) : (s.jump w).lcdAcc = s.lcdAcc := rfl
@[simp] theorem State.jump_frameReady (s : State) (w : Word) : (s.jump w).frameReady = s.frameReady := rfl
@[simp] theorem State.jump_cyclesThisFrame (s : State) (w : Word) : (s.jump w).cyclesThisFrame = s.cyclesThisFrame := rfl
@[simp] theorem State.jump_buttonEvents (s : State) (w : Word) : (s.jump w).buttonEvents = s.buttonEvents := rfl
@[simp] theorem State.jump_draws (s : State) (w : Word) : (s.jump w).draws = s.draws := rfl
@[simp] theorem State.jump_ticks (s : State) (w : Word) : (s.jump w).ticks = s.ticks := rfl

/-! `tick` adds cycles only -/

@[simp] theorem State.tick_a (s : State) (n : Nat) : (s.tick n).a = s.a := rfl
@[simp] theorem State.tick_f (s : State) (n : Nat) : (s.tick n).f = s.f := rfl
@[simp] theorem State.tick_b (s : State) (n : Nat) : (s.tick n).b = s.b := rfl
@[simp] theorem State.tick_c (s : State) (n : Nat) : (s.tick n).c = s.c := rfl
@[simp] theorem State.tick_d (s : State) (n : Nat) : (s.tick n).d = s.d := rfl
@[simp] theorem State.tick_e (s : State) (n : Nat) : (s.tick n).e = s.e := rfl
@[simp] theorem State.tick_h (s : State) (n : Nat) : (s.tick n).h = s.h := rfl
@[simp] theorem State.tick_l (s : State) (n : Nat) : (s.tick n).l = s.l := rfl
@[simp] theorem State.tick_pc (s : State) (n : Nat) : (s.tick n).pc = s.pc := rfl
@[simp] theorem State.tick_sp (s : State) (n : Nat) : (s.tick n).sp = s.sp := rfl
@[simp] theorem State.tick_ime (s : State) (n : Nat) : (s.tick n).ime = s.ime := rfl
@[simp] theorem State.tick_imeSched (s : State) (n : Nat) : (s.tick n).imeSched = s.imeSched := rfl
@[simp] theorem State.tick_runState (s : State) (n : Nat) : (s.tick n).runState = s.runState := rfl
@[simp] theorem State.tick_fault (s : State) (n : Nat) : (s.tick n).fault = s.fault := rfl
@[simp] theorem State.tick_cycleCounter (s : State) (n : Nat) : (s.tick n).cycleCounter = s.cycleCounter + n := rfl
@[simp] theorem State.tick_bootUnmap (s : State) (n : Nat) : (s.tick n).bootUnmap = s.bootUnmap := rfl
@[simp] theorem State.tick_bootRom (s : State) (n : Nat) : (s.tick n).bootRom = s.bootRom := rfl
@[simp] theorem State.tick_cart (s : State) (n : Nat) : (s.tick n).cart = s.cart := rfl
@[simp] theorem State.tick_ram (s : State) (n : Nat) : (s.tick n).ram = s.ram := rfl
@[simp] theorem State.tick_lcdAcc (s : State) (n : Nat) : (s.tick n).lcdAcc = s.lcdAcc := rfl
@[simp] theorem State.tick_frameReady (s : State) (n : Nat) : (s.tick n).frameReady = s.frameReady := rfl
@[simp] theorem State.tick_cyclesThisFrame (s : State) (n : Nat) : (s.tick n).cyclesThisFrame = s.cyclesThisFrame := rfl
@[simp] theorem State.tick_buttonEvents (s : State) (n : Nat) : (s.tick n).buttonEvents = s.buttonEvents := rfl
@[simp] theorem State.tick_draws (s : State) (n : Nat) : (s.tick n).draws = s.draws := rfl
@[simp] theorem State.tick_ticks (s : State) (n : Nat) : (s.tick n).ticks = s.ticks := rfl

/-! `poke` writes storage only -/

@[simp] theorem State.poke_a (s : State) (k : Nat) (v : Byte) : (s.poke k v).a = s.a := rfl
@[simp] theorem State.poke_f (s : State) (k : Nat) (v : Byte) : (s.poke k v).f = s.f := rfl
@[simp] theorem State.poke_b (s : State) (k : Nat) (v : Byte) : (s.poke k v).b = s.b := rfl
@[simp] theorem State.poke_c (s : State) (k : Nat) (v : Byte) : (s.poke k v).c = s.c := rfl
@[simp] theorem State.poke_d (s : State) (k : Nat) (v : Byte) : (s.poke k v).d = s.d := rfl
@[simp] theorem State.poke_e (s : State) (k : Nat) (v : Byte) : (s.poke k v).e = s.e := rfl
@[simp] theorem State.poke_h (s : State) (k : Nat) (v : Byte) : (s.poke k v).h = s.h := rfl
@[simp] theorem State.poke_l (s : State) (k : Nat) (v : Byte) : (s.poke k v).l = s.l := rfl
@[simp] theorem State.poke_pc (s : State) (k : Nat) (v : Byte) : (s.poke k v).pc = s.pc := rfl
@[simp] theorem State.poke_sp (s : State) (k : Nat) (v : Byte) : (s.poke k v).sp = s.sp := rfl
@[simp] theorem State.poke_ime (s : State) (k : Nat) (v : Byte) : (s.poke k v).ime = s.ime := rfl
@[simp] theorem State.poke_imeSched (s : State) (k : Nat) (v : Byte) : (s.poke k v).imeSched = s.imeSched := rfl
@[simp] theorem State.poke_runState (s : State) (k : Nat) (v : Byte) : (s.poke k v).runState = s.runState := rfl
@[simp] theorem State.poke_fault (s : State) (k : Nat) (v : Byte) : (s.poke k v).fault = s.fault := rfl
@[simp] theorem State.poke_cycleCounter (s : State) (k : Nat) (v : Byte) : (s.poke k v).cycleCounter = s.cycleCounter := rfl
@[simp] theorem State.poke_bootUnmap (s : State) (k : Nat) (v : Byte) : (s.poke k v).bootUnmap = s.bootUnmap := rfl
@[simp] theorem State.poke_bootRom (s : State) (k : Nat) (v : Byte) : (s.poke k v).bootRom = s.bootRom := rfl
@[simp] theorem State.poke_cart (s : State) (k : Nat) (v : Byte) : (s.poke k v).cart = s.cart := rfl
@[simp] theorem State.poke_ram (s : State) (k : Nat) (v : Byte) : (s.poke k v).ram = Memory.store s.ram k v := rfl
@[simp] theorem State.poke_lcdAcc (s : State) (k : Nat) (v : Byte) : (s.poke k v).lcdAcc = s.lcdAcc := rfl
@[simp] theorem State.poke_frameReady (s : State) (k : Nat) (v : Byte) : (s.poke k v).frameReady = s.frameReady := rfl
@[simp] theorem State.poke_cyclesThisFrame (s : State) (k : Nat) (v : Byte) : (s.poke k v).cyclesThisFrame = s.cyclesThisFrame := rfl
@[simp] theorem State.poke_buttonEvents (s : State) (k : Nat) (v : Byte) : (s.poke k v).buttonEvents = s.buttonEvents := rfl
@[simp] theorem State.poke_draws (s : State) (k : Nat) (v : Byte) : (s.poke k v).draws = s.draws := rfl
@[simp] theorem State.poke_ticks (s : State) (k : Nat) (v : Byte) : (s.poke k v).ticks = s.ticks := rfl

/-! `setBc` writes B and C only -/

@[simp] theorem State.setBc_a (s : State) (w : Word) : (s.setBc w).a = s.a := rfl
@[simp] theorem State.setBc_f (s : State) (w : Word) : (s.setBc w).f = s.f := rfl
@[simp] theorem State.setBc_b (s : State) (w : Word) : (s.setBc w).b = hiByte w := rfl
@[simp] theorem State.setBc_c (s : State) (w : Word) : (s.setBc w).c = loByte w := rfl
@[simp] theorem State.setBc_d (s : State) (w : Word) : (s.setBc w).d = s.d := rfl
@[simp] theorem State.setBc_e (s : State) (w : Word) : (s.setBc w).e = s.e := rfl
@[simp] theorem State.setBc_h (s : State) (w : Word) : (s.setBc w).h = s.h := rfl
@[simp] theorem State.setBc_l (s : State) (w : Word) : (s.setBc w).l = s.l := rfl
@[simp] theorem State.setBc_pc (s : State) (w : Word) : (s.setBc w).pc = s.pc := rfl
@[simp] theorem State.setBc_sp (s : State) (w : Word) : (s.setBc w).sp = s.sp := rfl
@[simp] theorem State.setBc_ime (s : State) (w : Word) : (s.setBc w).ime = s.ime := rfl
@[simp] theorem State.setBc_imeSched (s : State) (w : Word) : (s.setBc w).imeSched = s.imeSched := rfl
@[simp] theorem State.setBc_runState (s : State) (w : Word) : (s.setBc w).runState = s.runState := rfl
@[simp] theorem State.setBc_fault (s : State) (w : Word) : (s.setBc w).fault = s.fault := rfl
@[simp] theorem State.setBc_cycleCounter (s : State) (w : Word) : (s.setBc w).cycleCounter = s.cycleCounter := rfl
@[simp] theorem State.setBc_bootUnmap (s : State) (w : Word) : (s.setBc w).bootUnmap = s.bootUnmap := rfl
@[simp] theorem State.setBc_bootRom (s : State) (w : Word) : (s.setBc w).bootRom = s.bootRom := rfl
@[simp] theorem State.setBc_cart (s : State) (w : Word) : (s.setBc w).cart = s.cart := rfl
@[simp] theorem State.setBc_ram (s : State) (w : Word) : (s.setBc w).ram = s.ram := rfl
@[simp] theorem State.setBc_lcdAcc (s : State) (w : Word) : (s.setBc w).lcdAcc = s.lcdAcc := rfl
@[simp] theorem State.setBc_frameReady (s : State) (w : Word) : (s.setBc w).frameReady = s.frameReady := rfl
@[simp] theorem State.setBc_cyclesThisFrame (s : State) (w : Word) : (s.setBc w).cyclesThisFrame = s.cyclesThisFrame := rfl
@[simp] theorem State.setBc_buttonEvents (s : State) (w : Word) : (s.setBc w).buttonEvents = s.buttonEvents := rfl
@[simp] theorem State.setBc_draws (s : State) (w : Word) : (s.setBc w).draws = s.draws := rfl
@[simp] theorem State.setBc_ticks (s : State) (w : Word) : (s.setBc w).ticks = s.ticks := rfl

/-! `setDe` writes D and E only -/

@[simp] theorem State.setDe_a (s : State) (w : Word) : (s.setDe w).a = s.a := rfl
@[simp] theorem State.setDe_f (s : State) (w : Word) : (s.setDe w).f = s.f := rfl
@[simp] theorem State.setDe_b (s : State) (w : Word) : (s.setDe w).b = s.b := rfl
@[simp] theorem State.setDe_c (s : State) (w : Word) : (s.setDe w).c = s.c := rfl
@[simp] theorem State.setDe_d (s : State) (w : Word) : (s.setDe w).d = hiByte w := rfl
@[simp] theorem State.setDe_e (s : State) (w : Word) : (s.setDe w).e = loByte w := rfl
@[simp] theorem State.setDe_h (s : State) (w : Word) : (s.setDe w).h = s.h := rfl
@[simp] theorem State.setDe_l (s : State) (w : Word) : (s.setDe w).l = s.l := rfl
@[simp] theorem State.setDe_pc (s : State) (w : Word) : (s.setDe w).pc = s.pc := rfl
@[simp] theorem State.setDe_sp (s : State) (w : Word) : (s.setDe w).sp = s.sp := rfl
@[simp] theorem State.setDe_ime (s : State) (w : Word) : (s.setDe w).ime = s.ime := rfl
@[simp] theorem State.setDe_imeSched (s : State) (w : Word) : (s.setDe w).imeSched = s.imeSched := rfl
@[simp] theorem State.setDe_runState (s : State) (w : Word) : (s.setDe w).runState = s.runState := rfl
@[simp] theorem State.setDe_fault (s : State) (w : Word) : (s.setDe w).fault = s.fault := rfl
@[simp] theorem State.setDe_cycleCounter (s : State) (w : Word) : (s.setDe w).cycleCounter = s.cycleCounter := rfl
@[simp] theorem State.setDe_bootUnmap (s : State) (w : Word) : (s.setDe w).bootUnmap = s.bootUnmap := rfl
@[simp] theorem State.setDe_bootRom (s : State) (w : Word) : (s.setDe w).bootRom = s.bootRom := rfl
@[simp] theorem State.setDe_cart (s : State) (w : Word) : (s.setDe w).cart = s.cart := rfl
@[simp] theorem State.setDe_ram (s : State) (w : Word) : (s.setDe w).ram = s.ram := rfl
@[simp] theorem State.setDe_lcdAcc (s : State) (w : Word) : (s.setDe w).lcdAcc = s.lcdAcc := rfl
@[simp] theorem State.setDe_frameReady (s : State) (w : Word) : (s.setDe w).frameReady = s.frameReady := rfl
@[simp] theorem State.setDe_cyclesThisFrame (s : State) (w : Word) : (s.setDe w).cyclesThisFrame = s.cyclesThisFrame := rfl
@[simp] theorem State.setDe_buttonEvents (s : State) (w : Word) : (s.setDe w).buttonEvents = s.buttonEvents := rfl
@[simp] theorem State.setDe_draws (s : State) (w : Word) : (s.setDe w).draws = s.draws := rfl
@[simp] theorem State.setDe_ticks (s : State) (w : Word) : (s.setDe w).ticks = s.ticks := rfl

/-! `setHl` writes H and L only -/

@[simp] theorem State.setHl_a (s : State) (w : Word) : (s.setHl w).a = s.a := rfl
@[simp] theorem State.setHl_f (s : State) (w : Word) : (s.setHl w).f = s.f := rfl
@[simp] theorem State.setHl_b (s : State) (w : Word) : (s.setHl w).b = s.b := rfl
@[simp] theorem State.setHl_c (s : State) (w : Word) : (s.setHl w).c = s.c := rfl
@[simp] theorem State.setHl_d (s : State) (w : Word) : (s.setHl w).d = s.d := rfl
@[simp] theorem State.setHl_e (s : State) (w : Word) : (s.setHl w).e = s.e := rfl
@[simp] theorem State.setHl_h (s : State) (w : Word) : (s.setHl w).h = hiByte w := rfl
@[simp] theorem State.setHl_l (s : State) (w : Word) : (s.setHl w).l = loByte w := rfl
@[simp] theorem State.setHl_pc (s : State) (w : Word) : (s.setHl w).pc = s.pc := rfl
@[simp] theorem State.setHl_sp (s : State) (w : Word) : (s.setHl w).sp = s.sp := rfl
@[simp] theorem State.setHl_ime (s : State) (w : Word) : (s.setHl w).ime = s.ime := rfl
@[simp] theorem State.setHl_imeSched (s : State) (w : Word) : (s.setHl w).imeSched = s.imeSched := rfl
@[simp] theorem State.setHl_runState (s : State) (w : Word) : (s.setHl w).runState = s.runState := rfl
@[simp] theorem State.setHl_fault (s : State) (w : Word) : (s.setHl w).fault = s.fault := rfl
@[simp] theorem State.setHl_cycleCounter (s : State) (w : Word) : (s.setHl w).cycleCounter = s.cycleCounter := rfl
@[simp] theorem State.setHl_bootUnmap (s : State) (w : Word) : (s.setHl w).bootUnmap = s.bootUnmap := rfl
@[simp] theorem State.setHl_bootRom (s : State) (w : Word) : (s.setHl w).bootRom = s.bootRom := rfl
@[simp] theorem State.setHl_cart (s : State) (w : Word) : (s.setHl w).cart = s.cart := rfl
@[simp] theorem State.setHl_ram (s : State) (w : Word) : (s.setHl w).ram = s.ram := rfl
@[simp] theorem State.setHl_lcdAcc (s : State) (w : Word) : (s.setHl w).lcdAcc = s.lcdAcc := rfl
@[simp] theorem State.setHl_frameReady (s : State) (w : Word) : (s.setHl w).frameReady = s.frameReady := rfl
@[simp] theorem State.setHl_cyclesThisFrame (s : State) (w : Word) : (s.setHl w).cyclesThisFrame = s.cyclesThisFrame := rfl
@[simp] theorem State.setHl_buttonEvents (s : State) (w : Word) : (s.setHl w).buttonEvents = s.buttonEvents := rfl
@[simp] theorem State.setHl_draws (s : State) (w : Word) : (s.setHl w).draws = s.draws := rfl
@[simp] theorem State.setHl_ticks (s : State) (w : Word) : (s.setHl w).ticks = s.ticks := rfl

/-! `setAf` writes A and F only, F masked -/

@[simp] theorem State.setAf_a (s : State) (w : Word) : (s.setAf w).a = hiByte w := rfl
@[simp] theorem State.setAf_f (s : State) (w : Word) : (s.setAf w).f = loByte w &&& 0xF0 := rfl
@[simp] theorem State.setAf_b (s : State) (w : Word) : (s.setAf w).b = s.b := rfl
@[simp] theorem State.setAf_c (s : State) (w : Word) : (s.setAf w).c = s.c := rfl
@[simp] theorem State.setAf_d (s : State) (w : Word) : (s.setAf w).d = s.d := rfl
@[simp] theorem State.setAf_e (s : State) (w : Word) : (s.setAf w).e = s.e := rfl
@[simp] theorem State.setAf_h (s : State) (w : Word) : (s.setAf w).h = s.h := rfl
@[simp] theorem State.setAf_l (s : State) (w : Word) : (s.setAf w).l = s.l := rfl
@[simp] theorem State.setAf_pc (s : State) (w : Word) : (s.setAf w).pc = s.pc := rfl
@[simp] theorem State.setAf_sp (s : State) (w : Word) : (s.setAf w).sp = s.sp := rfl
@[simp] theorem State.setAf_ime (s : State) (w : Word) : (s.setAf w).ime = s.ime := rfl
@[simp] theorem State.setAf_imeSched (s : State) (w : Word) : (s.setAf w).imeSched = s.imeSched := rfl
@[simp] theorem State.setAf_runState (s : State) (w : Word) : (s.setAf w).runState = s.runState := rfl
@[simp] theorem State.setAf_fault (s : State) (w : Word) : (s.setAf w).fault = s.fault := rfl
@[simp] theorem State.setAf_cycleCounter (s : State) (w : Word) : (s.setAf w).cycleCounter = s.cycleCounter := rfl
@[simp] theorem State.setAf_bootUnmap (s : State) (w : Word) : (s.setAf w).bootUnmap = s.bootUnmap := rfl
@[simp] theorem State.setAf_bootRom (s : State) (w : Word) : (s.setAf w).bootRom = s.bootRom := rfl
@[simp] theorem State.setAf_cart (s : State) (w : Word) : (s.setAf w).cart = s.cart := rfl
@[simp] theorem State.setAf_ram (s : State) (w : Word) : (s.setAf w).ram = s.ram := rfl
@[simp] theorem State.setAf_lcdAcc (s : State) (w : Word) : (s.setAf w).lcdAcc = s.lcdAcc := rfl
@[simp] theorem State.setAf_frameReady (s : State) (w : Word) : (s.setAf w).frameReady = s.frameReady := rfl
@[simp] theorem State.setAf_cyclesThisFrame (s : State) (w : Word) : (s.setAf w).cyclesThisFrame = s.cyclesThisFrame := rfl
@[simp] theorem State.setAf_buttonEvents (s : State) (w : Word) : (s.setAf w).buttonEvents = s.buttonEvents := rfl
@[simp] theorem State.setAf_draws (s : State) (w : Word) : (s.setAf w).draws = s.draws := rfl
@[simp] theorem State.setAf_ticks (s : State) (w : Word) : (s.setAf w).ticks = s.ticks := rfl

/-! `setFlags` writes F only -/

@[simp] theorem State.setFlags_a (s : State) (z n h c : Bool) : (s.setFlags z n h c).a = s.a := rfl
@[simp] theorem State.setFlags_f (s : State) (z n h c : Bool) : (s.setFlags z n h c).f = packFlags z n h c := rfl
@[simp] theorem State.setFlags_b (s : State) (z n h c : Bool) : (s.setFlags z n h c).b = s.b := rfl
@[simp] theorem State.setFlags_c (s : State) (z n h c : Bool) : (s.setFlags z n h c).c = s.c := rfl
@[simp] theorem State.setFlags_d (s : State) (z n h c : Bool) : (s.setFlags z n h c).d = s.d := rfl
@[simp] theorem State.setFlags_e (s : State) (z n h c : Bool) : (s.setFlags z n h c).e = s.e := rfl
@[simp] theorem State.setFlags_h (s : State) (z n h c : Bool) : (s.setFlags z n h c).h = s.h := rfl
@[simp] theorem State.setFlags_l (s : State) (z n h c : Bool) : (s.setFlags z n h c).l = s.l := rfl
@[simp] theorem State.setFlags_pc (s : State) (z n h c : Bool) : (s.setFlags z n h c).pc = s.pc := rfl
@[simp] theorem State.setFlags_sp (s : State) (z n h c : Bool) : (s.setFlags z n h c).sp = s.sp := rfl
@[simp] theorem State.setFlags_ime (s : State) (z n h c : Bool) : (s.setFlags z n h c).ime = s.ime := rfl
@[simp] theorem State.setFlags_imeSched (s : State) (z n h c : Bool) : (s.setFlags z n h c).imeSched = s.imeSched := rfl
@[simp] theorem State.setFlags_runState (s : State) (z n h c : Bool) : (s.setFlags z n h c).runState = s.runState := rfl
@[simp] theorem State.setFlags_fault (s : State) (z n h c : Bool) : (s.setFlags z n h c).fault = s.fault := rfl
@[simp] theorem State.setFlags_cycleCounter (s : State) (z n h c : Bool) : (s.setFlags z n h c).cycleCounter = s.cycleCounter := rfl
@[simp] theorem State.setFlags_bootUnmap (s : State) (z n h c : Bool) : (s.setFlags z n h c).bootUnmap = s.bootUnmap := rfl
@[simp] theorem State.setFlags_bootRom (s : State) (z n h c : Bool) : (s.setFlags z n h c).bootRom = s.bootRom := rfl
@[simp] theorem State.setFlags_cart (s : State) (z n h c : Bool) : (s.setFlags z n h c).cart = s.cart := rfl
@[simp] theorem State.setFlags_ram (s : State) (z n h c : Bool) : (s.setFlags z n h c).ram = s.ram := rfl
@[simp] theorem State.setFlags_lcdAcc (s : State) (z n h c : Bool) : (s.setFlags z n h c).lcdAcc = s.lcdAcc := rfl
@[simp] theorem State.setFlags_frameReady (s : State) (z n h c : Bool) : (s.setFlags z n h c).frameReady = s.frameReady := rfl
@[simp] theorem State.setFlags_cyclesThisFrame (s : State) (z n h c : Bool) : (s.setFlags z n h c).cyclesThisFrame = s.cyclesThisFrame := rfl
@[simp] theorem State.setFlags_buttonEvents (s : State) (z n h c : Bool) : (s.setFlags z n h c).buttonEvents = s.buttonEvents := rfl
@[simp] theorem State.setFlags_draws (s : State) (z n h c : Bool) : (s.setFlags z n h c).draws = s.draws := rfl
@[simp] theorem State.setFlags_ticks (s : State) (z n h c : Bool) : (s.setFlags z n h c).ticks = s.ticks := rfl

/-! the fault writes the record and the run state only -/

@[simp] theorem raiseIllegal_a (v : Byte) (s : State) : (raiseIllegal v s).a = s.a := rfl
@[simp] theorem raiseIllegal_f (v : Byte) (s : State) : (raiseIllegal v s).f = s.f := rfl
@[simp] theorem raiseIllegal_b (v : Byte) (s : State) : (raiseIllegal v s).b = s.b := rfl
@[simp] theorem raiseIllegal_c (v : Byte) (s : State) : (raiseIllegal v s).c = s.c := rfl
@[simp] theorem raiseIllegal_d (v : Byte) (s : State) : (raiseIllegal v s).d = s.d := rfl
@[simp] theorem raiseIllegal_e (v : Byte) (s : State) : (raiseIllegal v s).e = s.e := rfl
@[simp] theorem raiseIllegal_h (v : Byte) (s : State) : (raiseIllegal v s).h = s.h := rfl
@[simp] theorem raiseIllegal_l (v : Byte) (s : State) : (raiseIllegal v s).l = s.l := rfl
@[simp] theorem raiseIllegal_pc (v : Byte) (s : State) : (raiseIllegal v s).pc = s.pc := rfl
@[simp] theorem raiseIllegal_sp (v : Byte) (s : State) : (raiseIllegal v s).sp = s.sp := rfl
@[simp] theorem raiseIllegal_ime (v : Byte) (s : State) : (raiseIllegal v s).ime = s.ime := rfl
@[simp] theorem raiseIllegal_imeSched (v : Byte) (s : State) : (raiseIllegal v s).imeSched = s.imeSched := rfl
@[simp] theorem raiseIllegal_runState (v : Byte) (s : State) : (raiseIllegal v s).runState = .faulted := rfl
@[simp] theorem raiseIllegal_fault (v : Byte) (s : State) : (raiseIllegal v s).fault = some ⟨s.pc, v⟩ := rfl
@[simp] theorem raiseIllegal_cycleCounter (v : Byte) (s : State) : (raiseIllegal v s).cycleCounter = s.cycleCounter := rfl
@[simp] theorem raiseIllegal_bootUnmap (v : Byte) (s : State) : (raiseIllegal v s).bootUnmap = s.bootUnmap := rfl
@[simp] theorem raiseIllegal_bootRom (v : Byte) (s : State) : (raiseIllegal v s).bootRom = s.bootRom := rfl
@[simp] theorem raiseIllegal_cart (v : Byte) (s : State) : (raiseIllegal v s).cart = s.cart := rfl
@[simp] theorem raiseIllegal_ram (v : Byte) (s : State) : (raiseIllegal v s).ram = s.ram := rfl
@[simp] theorem raiseIllegal_lcdAcc (v : Byte) (s : State) : (raiseIllegal v s).lcdAcc = s.lcdAcc := rfl
@[simp] theorem raiseIllegal_frameReady (v : Byte) (s : State) : (raiseIllegal v s).frameReady = s.frameReady := rfl
@[simp] theorem raiseIllegal_cyclesThisFrame (v : Byte) (s : State) : (raiseIllegal v s).cyclesThisFrame = s.cyclesThisFrame := rfl
@[simp] theorem raiseIllegal_buttonEvents (v : Byte) (s : State) : (raiseIllegal v s).buttonEvents = s.buttonEvents := rfl
@[simp] theorem raiseIllegal_draws (v : Byte) (s : State) : (raiseIllegal v s).draws = s.draws := rfl
@[simp] theorem raiseIllegal_ticks (v : Byte) (s : State) : (raiseIllegal v s).ticks = s.ticks := rfl

/-! an idle step adds 4 cycles only -/

@[simp] theorem idle_a (s : State) : (idle s).a = s.a := rfl
@[simp] theorem idle_f (s : State) : (idle s).f = s.f := rfl
@[simp] theorem idle_b (s : State) : (idle s).b = s.b := rfl
@[simp] theorem idle_c (s : State) : (idle s).c = s.c := rfl
@[simp] theorem idle_d (s : State) : (idle s).d = s.d := rfl
@[simp] theorem idle_e (s : State) : (idle s).e = s.e := rfl
@[simp] theorem idle_h (s : State) : (idle s).h = s.h := rfl
@[simp] theorem idle_l (s : State) : (idle s).l = s.l := rfl
@[simp] theorem idle_pc (s : State) : (idle s).pc = s.pc := rfl
@[simp] theorem idle_sp (s : State) : (idle s).sp = s.sp := rfl
@[simp] theorem idle_ime (s : State) : (idle s).ime = s.ime := rfl
@[simp] theorem idle_imeSched (s : State) : (idle s).imeSched = s.imeSched := rfl
@[simp] theorem idle_runState (s : State) : (idle s).runState = s.runState := rfl
@[simp] theorem idle_fault (s : State) : (idle s).fault = s.fault := rfl
@[simp] theorem idle_cycleCounter (s : State) : (idle s).cycleCounter = s.cycleCounter + 4 := rfl
@[simp] theorem idle_bootUnmap (s : State) : (idle s).bootUnmap = s.bootUnmap := rfl
@[simp] theorem idle_bootRom (s : State) : (idle s).bootRom = s.bootRom := rfl
@[simp] theorem idle_cart (s : State) : (idle s).cart = s.cart := rfl
@[simp] theorem idle_ram (s : State) : (idle s).ram = s.ram := rfl
@[simp] theorem idle_lcdAcc (s : State) : (idle s).lcdAcc = s.lcdAcc := rfl
@[simp] theorem idle_frameReady (s : State) : (idle s).frameReady = s.frameReady := rfl
@[simp] theorem idle_cyclesThisFrame (s : State) : (idle s).cyclesThisFrame = s.cyclesThisFrame := rfl
@[simp] theorem idle_buttonEvents (s : State) : (idle s).buttonEvents = s.buttonEvents := rfl
@[simp] theorem idle_draws (s : State) : (idle s).draws = s.draws := rfl
@[simp] theorem idle_ticks (s : State) : (idle s).ticks = s.ticks := rfl

/-! `setReg` writes one of the seven registers only -/

@[simp] theorem State.setReg_f (s : State) (r : Reg) (v : Byte) : (s.setReg r v).f = s.f := by cases r <;> rfl
@[simp] theorem State.setReg_pc (s : State) (r : Reg) (v : Byte) : (s.setReg r v).pc = s.pc := by cases r <;> rfl
@[simp] theorem State.setReg_sp (s : State) (r : Reg) (v : Byte) : (s.setReg r v).sp = s.sp := by cases r <;> rfl
@[simp] theorem State.setReg_ime (s : State) (r : Reg) (v : Byte) : (s.setReg r v).ime = s.ime := by cases r <;> rfl
@[simp] theorem State.setReg_imeSched (s : State) (r : Reg) (v : Byte) : (s.setReg r v).imeSched = s.imeSched := by cases r <;> rfl
@[simp] theorem State.setReg_runState (s : State) (r : Reg) (v : Byte) : (s.setReg r v).runState = s.runState := by cases r <;> rfl
@[simp] theorem State.setReg_fault (s : State) (r : Reg) (v : Byte) : (s.setReg r v).fault = s.fault := by cases r <;> rfl
@[simp] theorem State.setReg_cycleCounter (s : State) (r : Reg) (v : Byte) : (s.setReg r v).cycleCounter = s.cycleCounter := by cases r <;> rfl
@[simp] theorem State.setReg_bootUnmap (s : State) (r : Reg) (v : Byte) : (s.setReg r v).bootUnmap = s.bootUnmap := by cases r <;> rfl
@[simp] theorem State.setReg_bootRom (s : State) (r : Reg) (v : Byte) : (s.setReg r v).bootRom = s.bootRom := by cases r <;> rfl
@[simp] theorem State.setReg_cart (s : State) (r : Reg) (v : Byte) : (s.setReg r v).cart = s.cart := by cases r <;> rfl
@[simp] theorem State.setReg_ram (s : State) (r : Reg) (v : Byte) : (s.setReg r v).ram = s.ram := by cases r <;> rfl
@[simp] theorem State.setReg_lcdAcc (s : State) (r : Reg) (v : Byte) : (s.setReg r v).lcdAcc = s.lcdAcc := by cases r <;> rfl
@[simp] theorem State.setReg_frameReady (s : State) (r : Reg) (v : Byte) : (s.setReg r v).frameReady = s.frameReady := by cases r <;> rfl
@[simp] theorem State.setReg_cyclesThisFrame (s : State) (r : Reg) (v : Byte) : (s.setReg r v).cyclesThisFrame = s.cyclesThisFrame := by cases r <;> rfl
@[simp] theorem State.setReg_buttonEvents (s : State) (r : Reg) (v : Byte) : (s.setReg r v).buttonEvents = s.buttonEvents := by cases r <;> rfl
@[simp] theorem State.setReg_draws (s : State) (r : Reg) (v : Byte) : (s.setReg r v).draws = s.draws := by cases r <;> rfl
@[simp] theorem State.setReg_ticks (s : State) (r : Reg) (v : Byte) : (s.setReg r v).ticks = s.ticks := by cases r <;> rfl

@[simp] theorem State.reg_setReg_same (s : State) (r : Reg) (v : Byte) : (s.setReg r v).reg r = v := by cases r <;> rfl

theorem State.reg_setReg_other (s : State) {r q : Reg} (v : Byte) (h : q ≠ r) : (s.setReg r v).reg q = s.reg q := by
  cases r <;> cases q <;> first | rfl | exact absurd rfl h

/-! `setPair` writes one pair only -/

@[simp] theorem State.setPair_a (s : State) (p : Pair) (w : Word) : (s.setPair p w).a = s.a := by cases p <;> rfl
@[simp] theorem State.setPair_f (s : State) (p : Pair) (w : Word) : (s.setPair p w).f = s.f := by cases p <;> rfl
@[simp] theorem State.setPair_pc (s : State) (p : Pair) (w : Word) : (s.setPair p w).pc = s.pc := by cases p <;> rfl
@[simp] theorem State.setPair_ime (s : State) (p : Pair) (w : Word) : (s.setPair p w).ime = s.ime := by cases p <;> rfl
@[simp] theorem State.setPair_imeSched (s : State) (p : Pair) (w : Word) : (s.setPair p w).imeSched = s.imeSched := by cases p <;> rfl
@[simp] theorem State.setPair_runState (s : State) (p : Pair) (w : Word) : (s.setPair p w).runState = s.runState := by cases p <;> rfl
@[simp] theorem State.setPair_fault (s : State) (p : Pair) (w : Word) : (s.setPair p w).fault = s.fault := by cases p <;> rfl
@[simp] theorem State.setPair_cycleCounter (s : State) (p : Pair) (w : Word) : (s.setPair p w).cycleCounter = s.cycleCounter := by cases p <;> rfl
@[simp] theorem State.setPair_bootUnmap (s : State) (p : Pair) (w : Word) : (s.setPair p w).bootUnmap = s.bootUnmap := by cases p <;> rfl
@[simp] theorem State.setPair_bootRom (s : State) (p : Pair) (w : Word) : (s.setPair p w).bootRom = s.bootRom := by cases p <;> rfl
@[simp] theorem State.setPair_cart (s : State) (p : Pair) (w : Word) : (s.setPair p w).cart = s.cart := by cases p <;> rfl
@[simp] theorem State.setPair_ram (s : State) (p : Pair) (w : Word) : (s.setPair p w).ram = s.ram := by cases p <;> rfl
@[simp] theorem State.setPair_lcdAcc (s : State) (p : Pair) (w : Word) : (s.setPair p w).lcdAcc = s.lcdAcc := by cases p <;> rfl
@[simp] theorem State.setPair_frameReady (s : State) (p : Pair) (w : Word) : (s.setPair p w).frameReady = s.frameReady := by cases p <;> rfl
@[simp] theorem State.setPair_cyclesThisFrame (s : State) (p : Pair) (w : Word) : (s.setPair p w).cyclesThisFrame = s.cyclesThisFrame := by cases p <;> rfl
@[simp] theorem State.setPair_buttonEvents (s : State) (p : Pair) (w : Word) : (s.setPair p w).buttonEvents = s.buttonEvents := by cases p <;> rfl
@[simp] theorem State.setPair_draws (s : State) (p : Pair) (w : Word) : (s.setPair p w).draws = s.draws := by cases p <;> rfl
@[simp] theorem State.setPair_ticks (s : State) (p : Pair) (w : Word) : (s.setPair p w).ticks = s.ticks := by cases p <;> rfl

/-! `setStackPair` writes one pair only -/

@[simp] theorem State.setStackPair_pc (s : State) (p : StackPair) (w : Word) : (s.setStackPair p w).pc = s.pc := by cases p <;> rfl
@[simp] theorem State.setStackPair_sp (s : State) (p : StackPair) (w : Word) : (s.setStackPair p w).sp = s.sp := by cases p <;> rfl
@[simp] theorem State.setStackPair_ime (s : State) (p : StackPair) (w : Word) : (s.setStackPair p w).ime = s.ime := by cases p <;> rfl
@[simp] theorem State.setStackPair_imeSched (s : State) (p : StackPair) (w : Word) : (s.setStackPair p w).imeSched = s.imeSched := by cases p <;> rfl
@[simp] theorem State.setStackPair_runState (s : State) (p : StackPair) (w : Word) : (s.setStackPair p w).runState = s.runState := by cases p <;> rfl
@[simp] theorem State.setStackPair_fault (s : State) (p : StackPair) (w : Word) : (s.setStackPair p w).fault = s.fault := by cases p <;> rfl
@[simp] theorem State.setStackPair_cycleCounter (s : State) (p : StackPair) (w : Word) : (s.setStackPair p w).cycleCounter = s.cycleCounter := by cases p <;> rfl
@[simp] theorem State.setStackPair_bootUnmap (s : State) (p : StackPair) (w : Word) : (s.setStackPair p w).bootUnmap = s.bootUnmap := by cases p <;> rfl
@[simp] theorem State.setStackPair_bootRom (s : State) (p : StackPair) (w : Word) : (s.setStackPair p w).bootRom = s.bootRom := by cases p <;> rfl
@[simp] theorem State.setStackPair_cart (s : State) (p : StackPair) (w : Word) : (s.setStackPair p w).cart = s.cart := by cases p <;> rfl
@[simp] theorem State.setStackPair_ram (s : State) (p : StackPair) (w : Word) : (s.setStackPair p w).ram = s.ram := by cases p <;> rfl
@[simp] theorem State.setStackPair_lcdAcc (s : State) (p : StackPair) (w : Word) : (s.setStackPair p w).lcdAcc = s.lcdAcc := by cases p <;> rfl
@[simp] theorem State.setStackPair_frameReady (s : State) (p : StackPair) (w : Word) : (s.setStackPair p w).frameReady = s.frameReady := by cases p <;> rfl
@[simp] theorem State.setStackPair_cyclesThisFrame (s : State) (p : StackPair) (w : Word) : (s.setStackPair p w).cyclesThisFrame = s.cyclesThisFrame := by cases p <;> rfl
@[simp] theorem State.setStackPair_buttonEvents (s : State) (p : StackPair) (w : Word) : (s.setStackPair p w).buttonEvents = s.buttonEvents := by cases p <;> rfl
@[simp] theorem State.setStackPair_draws (s : State) (p : StackPair) (w : Word) : (s.setStackPair p w).draws = s.draws := by cases p <;> rfl
@[simp] theorem State.setStackPair_ticks (s : State) (p : StackPair) (w : Word) : (s.setStackPair p w).ticks = s.ticks := by cases p <;> rfl
end Sys2Proof.Machine
end

