-- ==== Sys2Proof/Laws/Memory.lean ====
section
/-! SUPPORT. The laws of storage and images: read after write, the canonical form, and that equal memories are equal data. -/

namespace Sys2Proof.Machine

/-! ## Read after write -/

@[simp] theorem Memory.load_nil (k : Nat) : Memory.load [] k = 0 := rfl

@[simp] theorem Memory.load_cons (j k : Nat) (v : Byte) (m : Memory) :
    Memory.load ((j, v) :: m) k = if k = j then v else Memory.load m k := rfl

/-- In a form with rising addresses, an address below them all is not listed. -/
theorem Memory.load_below {m : Memory} {k : Nat} (h : ∀ x ∈ m, k < x.1) : Memory.load m k = 0 := by
  induction m with
  | nil => rfl
  | cons x m ih =>
    have hx : k < x.1 := h x List.mem_cons_self
    obtain ⟨j, v⟩ := x
    simp only [Memory.load_cons, if_neg (Nat.ne_of_lt hx)]
    exact ih fun y hy => h y (List.mem_cons_of_mem _ hy)

theorem Memory.load_cell {m : Memory} {k : Nat} (v : Byte) (h : ∀ x ∈ m, k < x.1) (a : Nat) :
    Memory.load (Memory.cell k v m) a = if a = k then v else Memory.load m a := by
  unfold Memory.cell
  split
  · next hv =>
    split
    · next ha => subst ha; rw [Memory.load_below h, hv]; rfl
    · rfl
  · rfl

/-- Reading after a write: the written byte at its address, the old byte elsewhere. -/
theorem Memory.load_store {m : Memory} (hm : m.Pairwise fun x y => x.1 < y.1) (k a : Nat) (v : Byte) :
    Memory.load (Memory.store m k v) a = if a = k then v else Memory.load m a := by
  induction m with
  | nil => exact Memory.load_cell v (by simp) a
  | cons x m ih =>
    obtain ⟨j, w⟩ := x
    have hj : ∀ x ∈ m, j < x.1 := fun x hx => List.rel_of_pairwise_cons hm hx
    simp only [Memory.store]
    split
    · next hk =>
      rw [Memory.load_cell]
      intro x hx
      cases hx with
      | head => exact hk
      | tail _ hx => exact Nat.lt_trans hk (hj x hx)
    · split
      · next hk =>
        subst hk
        rw [Memory.load_cell v hj]
        by_cases ha : a = k <;> simp [ha]
      · next hk =>
        rw [Memory.load_cons, ih (List.Pairwise.of_cons hm), Memory.load_cons]
        by_cases ha : a = j
        · subst ha; simp [Ne.symm hk]
        · simp [ha]

/-! ## The canonical form -/

/-- Where the addresses of a store come from. -/
theorem Memory.mem_store {m : Memory} {k : Nat} {v : Byte} {x : Host.Cell} (h : x ∈ Memory.store m k v) :
    x ∈ m ∨ (x = (k, v) ∧ v ≠ 0) := by
  have cell : ∀ {m' : Memory}, x ∈ Memory.cell k v m' → x ∈ m' ∨ (x = (k, v) ∧ v ≠ 0) := by
    intro m' hx
    unfold Memory.cell at hx
    split at hx
    · exact .inl hx
    · next hv =>
      cases hx with
      | head => exact .inr ⟨rfl, hv⟩
      | tail _ hx => exact .inl hx
  induction m with
  | nil => exact cell h
  | cons y m ih =>
    obtain ⟨j, w⟩ := y
    simp only [Memory.store] at h
    split at h
    · exact cell h
    · split at h
      · exact (cell h).imp_left (List.mem_cons_of_mem _)
      · cases h with
        | head => exact .inl List.mem_cons_self
        | tail _ h => exact (ih h).imp_left (List.mem_cons_of_mem _)

theorem Memory.cell_pairwise {m : Memory} {k : Nat} {v : Byte} (hm : m.Pairwise fun x y => x.1 < y.1)
    (h : ∀ x ∈ m, k < x.1) : (Memory.cell k v m).Pairwise fun x y => x.1 < y.1 := by
  unfold Memory.cell
  split
  · exact hm
  · exact List.Pairwise.cons h hm

theorem Memory.store_pairwise {m : Memory} (hm : m.Pairwise fun x y => x.1 < y.1) (k : Nat) (v : Byte) :
    (Memory.store m k v).Pairwise fun x y => x.1 < y.1 := by
  induction m with
  | nil => exact Memory.cell_pairwise .nil (by simp)
  | cons x m ih =>
    obtain ⟨j, w⟩ := x
    have hj : ∀ x ∈ m, j < x.1 := fun x hx => List.rel_of_pairwise_cons hm hx
    have hm' := List.Pairwise.of_cons hm
    simp only [Memory.store]
    split
    · next hk =>
      refine Memory.cell_pairwise hm fun x hx => ?_
      cases hx with
      | head => exact hk
      | tail _ hx => exact Nat.lt_trans hk (hj x hx)
    · split
      · next hk => subst hk; exact Memory.cell_pairwise hm' hj
      · next h1 h2 =>
        refine List.Pairwise.cons (fun x hx => ?_) (ih hm')
        rcases Memory.mem_store hx with hx | ⟨rfl, -⟩
        · exact hj x hx
        · simp only; omega

/-- A write keeps the canonical form. -/
theorem Memory.store_wf {m : Memory} (hm : Memory.wf m) (k : Nat) (v : Byte) : Memory.wf (Memory.store m k v) := by
  refine ⟨Memory.store_pairwise hm.1 k v, fun x hx => ?_⟩
  rcases Memory.mem_store hx with hx | ⟨rfl, hv⟩
  · exact hm.2 x hx
  · exact hv

/-- So does writing a list of cells. -/
theorem Memory.storeAll_wf {m : Memory} (hm : Memory.wf m) (cells : List Host.Cell) : Memory.wf (Memory.storeAll m cells) := by
  induction cells generalizing m with
  | nil => exact hm
  | cons x cells ih => exact ih (Memory.store_wf hm _ _)

/-- A property of addresses that the memory and the cells have, the memory written has. -/
theorem Memory.storeAll_mem {m : Memory} {cells : List Host.Cell} {P : Nat → Prop} (hm : ∀ x ∈ m, P x.1)
    (hc : ∀ x ∈ cells, P x.1) : ∀ x ∈ Memory.storeAll m cells, P x.1 := by
  induction cells generalizing m with
  | nil => exact hm
  | cons y cells ih =>
    refine ih (fun x hx => ?_) fun x hx => hc x (List.mem_cons_of_mem _ hx)
    rcases Memory.mem_store hx with hx | ⟨rfl, -⟩
    · exact hm x hx
    · exact hc y List.mem_cons_self

/-- What is read after writing a list of cells: of the cells of an address the last, else what was read before. -/
theorem Memory.load_storeAll {m : Memory} (hm : Memory.wf m) (cells : List Host.Cell) (k : Nat) :
    Memory.load (Memory.storeAll m cells) k = (Image.find? cells.reverse k).getD (Memory.load m k) := by
  have snoc : ∀ (cs : List Host.Cell) (x : Host.Cell),
      Image.find? (cs ++ [x]) k = (Image.find? cs k).or (if k = x.1 then some x.2 else none) := by
    intro cs x
    induction cs with
    | nil => rfl
    | cons y cs ih =>
      simp only [List.cons_append, Image.find?]
      split
      · rfl
      · exact ih
  induction cells generalizing m with
  | nil => rfl
  | cons x cells ih =>
    rw [show Memory.storeAll m (x :: cells) = Memory.storeAll (Memory.store m x.1 x.2) cells from rfl,
      ih (Memory.store_wf hm _ _), Memory.load_store hm.1, List.reverse_cons, snoc]
    cases Image.find? cells.reverse k
    · simp only [Option.none_or, Option.getD_none]; split <;> rfl
    · rfl

/-- Memories in the canonical form that read alike are equal. -/
theorem Memory.ext_of_wf {m m' : Memory} (hm : Memory.wf m) (hm' : Memory.wf m')
    (h : ∀ k, Memory.load m k = Memory.load m' k) : m = m' := by
  induction m generalizing m' with
  | nil =>
    cases m' with
    | nil => rfl
    | cons y _ => exact absurd ((h y.1).symm.trans rfl) (by simpa [Memory.load] using hm'.2 y List.mem_cons_self)
  | cons x m ih =>
    cases m' with
    | nil => exact absurd ((h x.1).trans rfl) (by simpa [Memory.load] using hm.2 x List.mem_cons_self)
    | cons y m' =>
      obtain ⟨j, v⟩ := x
      obtain ⟨k, w⟩ := y
      have hj : ∀ x ∈ m, j < x.1 := fun x hx => List.rel_of_pairwise_cons hm.1 hx
      have hk : ∀ x ∈ m', k < x.1 := fun x hx => List.rel_of_pairwise_cons hm'.1 hx
      have hv : v ≠ 0 := hm.2 _ List.mem_cons_self
      have hw : w ≠ 0 := hm'.2 _ List.mem_cons_self
      have hjk : j = k := by
        rcases Nat.lt_trichotomy j k with hlt | heq | hgt
        · have := h j
          rw [Memory.load_cons, if_pos rfl, Memory.load_below (m := (k, w) :: m')] at this
          · exact absurd this hv
          · intro x hx
            cases hx with
            | head => exact hlt
            | tail _ hx => exact Nat.lt_trans hlt (hk x hx)
        · exact heq
        · have := h k
          rw [Memory.load_cons k k, if_pos rfl, Memory.load_below (m := (j, v) :: m)] at this
          · exact absurd this.symm hw
          · intro x hx
            cases hx with
            | head => exact hgt
            | tail _ hx => exact Nat.lt_trans hgt (hj x hx)
      subst hjk
      have hvw : v = w := by simpa using h j
      subst hvw
      have htail : m = m' := by
        refine ih ⟨List.Pairwise.of_cons hm.1, fun x hx => hm.2 x (List.mem_cons_of_mem _ hx)⟩
          ⟨List.Pairwise.of_cons hm'.1, fun x hx => hm'.2 x (List.mem_cons_of_mem _ hx)⟩ fun a => ?_
        have := h a
        simp only [Memory.load_cons] at this
        by_cases ha : a = j
        · subst ha; rw [Memory.load_below hj, Memory.load_below hk]
        · simpa [ha] using this
      rw [htail]

/-! ## Images -/

theorem Image.find?_insert (m : Image) (k a : Nat) (v : Byte) (hm : Image.wf m) :
    Image.find? (Image.insert m k v) a = if a = k then some v else Image.find? m a := by
  induction m with
  | nil => rfl
  | cons x m ih =>
    obtain ⟨j, w⟩ := x
    simp only [Image.insert]
    split
    · rfl
    · split
      · next hk => subst hk; simp only [Image.find?]; split <;> rfl
      · next h1 h2 =>
        simp only [Image.find?, ih (List.Pairwise.of_cons hm)]
        by_cases ha : a = j
        · subst ha; simp [Ne.symm h2]
        · simp [ha]

theorem Image.mem_insert {m : Image} {k : Nat} {v : Byte} {x : Host.Cell} (h : x ∈ Image.insert m k v) :
    x ∈ m ∨ x = (k, v) := by
  induction m with
  | nil => exact .inr (List.mem_singleton.mp h)
  | cons y m ih =>
    obtain ⟨j, w⟩ := y
    simp only [Image.insert] at h
    split at h
    · cases h with
      | head => exact .inr rfl
      | tail _ h => exact .inl h
    · split at h
      · cases h with
        | head => exact .inr rfl
        | tail _ h => exact .inl (List.mem_cons_of_mem _ h)
      · cases h with
        | head => exact .inl List.mem_cons_self
        | tail _ h => exact (ih h).imp_left (List.mem_cons_of_mem _)

theorem Image.insert_wf {m : Image} (hm : Image.wf m) (k : Nat) (v : Byte) : Image.wf (Image.insert m k v) := by
  induction m with
  | nil => simp [Image.insert, Image.wf]
  | cons x m ih =>
    obtain ⟨j, w⟩ := x
    have hj : ∀ x ∈ m, j < x.1 := fun x hx => List.rel_of_pairwise_cons hm hx
    simp only [Image.insert]
    split
    · next hk =>
      refine List.Pairwise.cons (fun x hx => ?_) hm
      cases hx with
      | head => exact hk
      | tail _ hx => exact Nat.lt_trans hk (hj x hx)
    · split
      · next hk => subst hk; exact List.Pairwise.cons hj (List.Pairwise.of_cons hm)
      · next h1 h2 =>
        refine List.Pairwise.cons (fun x hx => ?_) (ih (List.Pairwise.of_cons hm))
        rcases Image.mem_insert hx with hx | rfl
        · exact hj x hx
        · simp only; omega

end Sys2Proof.Machine
end

