-- ==== Sys2Proof/Laws/Bus.lean ====
section
/-! SUPPORT. What the bus operations and the stack can do, said once each. -/

namespace Sys2Proof.Machine

/-! ## Regions -/

/-- The addresses of each region (R75). -/
theorem regionOf_bounds (a : Word) :
    match regionOf a with
    | .overlay => a.toNat < 0x0100
    | .rom => 0x0100 ≤ a.toNat ∧ a.toNat < 0x8000
    | .video => 0x8000 ≤ a.toNat ∧ a.toNat < 0xA000
    | .external => 0xA000 ≤ a.toNat ∧ a.toNat < 0xC000
    | .work => 0xC000 ≤ a.toNat ∧ a.toNat < 0xE000
    | .echo => 0xE000 ≤ a.toNat ∧ a.toNat < 0xFE00
    | .oam => 0xFE00 ≤ a.toNat ∧ a.toNat < 0xFEA0
    | .unusable => 0xFEA0 ≤ a.toNat ∧ a.toNat < 0xFF00
    | .io => 0xFF00 ≤ a.toNat ∧ a.toNat < 0xFF80
    | .high => 0xFF80 ≤ a.toNat ∧ a.toNat < 0xFFFF
    | .enable => a.toNat = 0xFFFF := by
  have := a.isLt
  unfold regionOf
  dsimp only
  split_ifs <;> dsimp only <;> omega

/-- The region of an address in the I/O range. -/
theorem regionOf_io {a : Word} (h : 0xFF00 ≤ a.toNat ∧ a.toNat < 0xFF80) : regionOf a = .io := by
  unfold regionOf
  dsimp only
  split_ifs <;> first | rfl | omega

/-! ## Reads -/

@[simp] theorem readByte_fst (a : Word) (s : State) : (readByte a s).1 = s.peek a := rfl

@[simp] theorem readByte_snd (a : Word) (s : State) : (readByte a s).2 = s.touch a := rfl

/-- A read changes nothing but the count of draws, and that only in 0xFEA0 to 0xFEFF (R94). -/
theorem State.touch_eq (s : State) (a : Word) :
    s.touch a = { s with draws := s.draws + if regionOf a = .unusable then 1 else 0 } := by
  unfold State.touch; cases regionOf a <;> rfl

/-- A read outside 0xFEA0 to 0xFEFF changes nothing at all. -/
theorem State.touch_of_usable (s : State) {a : Word} (h : regionOf a ≠ .unusable) : s.touch a = s := by
  simp [State.touch_eq, h]

/-! `touch` field by field -/

@[simp] theorem State.touch_a (s : State) (a : Word) : (s.touch a).a = s.a := by rw [State.touch_eq]
@[simp] theorem State.touch_f (s : State) (a : Word) : (s.touch a).f = s.f := by rw [State.touch_eq]
@[simp] theorem State.touch_b (s : State) (a : Word) : (s.touch a).b = s.b := by rw [State.touch_eq]
@[simp] theorem State.touch_c (s : State) (a : Word) : (s.touch a).c = s.c := by rw [State.touch_eq]
@[simp] theorem State.touch_d (s : State) (a : Word) : (s.touch a).d = s.d := by rw [State.touch_eq]
@[simp] theorem State.touch_e (s : State) (a : Word) : (s.touch a).e = s.e := by rw [State.touch_eq]
@[simp] theorem State.touch_h (s : State) (a : Word) : (s.touch a).h = s.h := by rw [State.touch_eq]
@[simp] theorem State.touch_l (s : State) (a : Word) : (s.touch a).l = s.l := by rw [State.touch_eq]
@[simp] theorem State.touch_pc (s : State) (a : Word) : (s.touch a).pc = s.pc := by rw [State.touch_eq]
@[simp] theorem State.touch_sp (s : State) (a : Word) : (s.touch a).sp = s.sp := by rw [State.touch_eq]
@[simp] theorem State.touch_ime (s : State) (a : Word) : (s.touch a).ime = s.ime := by rw [State.touch_eq]
@[simp] theorem State.touch_imeSched (s : State) (a : Word) : (s.touch a).imeSched = s.imeSched := by rw [State.touch_eq]
@[simp] theorem State.touch_runState (s : State) (a : Word) : (s.touch a).runState = s.runState := by rw [State.touch_eq]
@[simp] theorem State.touch_fault (s : State) (a : Word) : (s.touch a).fault = s.fault := by rw [State.touch_eq]
@[simp] theorem State.touch_cycleCounter (s : State) (a : Word) : (s.touch a).cycleCounter = s.cycleCounter := by rw [State.touch_eq]
@[simp] theorem State.touch_bootUnmap (s : State) (a : Word) : (s.touch a).bootUnmap = s.bootUnmap := by rw [State.touch_eq]
@[simp] theorem State.touch_bootRom (s : State) (a : Word) : (s.touch a).bootRom = s.bootRom := by rw [State.touch_eq]
@[simp] theorem State.touch_cart (s : State) (a : Word) : (s.touch a).cart = s.cart := by rw [State.touch_eq]
@[simp] theorem State.touch_ram (s : State) (a : Word) : (s.touch a).ram = s.ram := by rw [State.touch_eq]
@[simp] theorem State.touch_lcdAcc (s : State) (a : Word) : (s.touch a).lcdAcc = s.lcdAcc := by rw [State.touch_eq]
@[simp] theorem State.touch_frameReady (s : State) (a : Word) : (s.touch a).frameReady = s.frameReady := by rw [State.touch_eq]
@[simp] theorem State.touch_cyclesThisFrame (s : State) (a : Word) : (s.touch a).cyclesThisFrame = s.cyclesThisFrame := by rw [State.touch_eq]
@[simp] theorem State.touch_buttonEvents (s : State) (a : Word) : (s.touch a).buttonEvents = s.buttonEvents := by rw [State.touch_eq]
@[simp] theorem State.touch_draws (s : State) (a : Word) : (s.touch a).draws = s.draws + if regionOf a = .unusable then 1 else 0 := by rw [State.touch_eq]
@[simp] theorem State.touch_ticks (s : State) (a : Word) : (s.touch a).ticks = s.ticks := by rw [State.touch_eq]

/-- A read elsewhere returns the same byte after it, but in 0xFEA0 to 0xFEFF (R94). -/
theorem State.peek_touch (s : State) (a : Word) {x : Word} (h : regionOf x ≠ .unusable) : (s.touch a).peek x = s.peek x := by
  rw [State.touch_eq]; unfold State.peek; cases hx : regionOf x <;> first | rfl | exact absurd hx h

/-- What a read returns depends on the latch, the images, the storage and, in the unusable gap, the draws. -/
theorem State.peek_congr {s t : State} {x : Word} (hl : x.toNat < 0x100 → t.bootUnmap = s.bootUnmap) (hb : t.bootRom = s.bootRom)
    (hc : t.cart = s.cart) (hr : ∀ k, cellOf x = some k → Memory.load t.ram k = Memory.load s.ram k)
    (hd : t.draws = s.draws ∨ regionOf x ≠ .unusable) : t.peek x = s.peek x := by
  have hov : regionOf x = .overlay → x.toNat < 0x100 := by
    intro h; have := regionOf_bounds x; rwa [h] at this
  unfold State.peek
  cases hx : regionOf x <;> simp only [State.cartByte, State.bootByte, hb, hc]
  case overlay => rw [hl (hov hx)]
  case unusable =>
    rcases hd with hd | hd
    · rw [hd]
    · exact absurd hx hd
  all_goals exact hr _ (by simp [cellOf, hx])

/-! ## Writes -/

/-- A write changes nothing but the storage and the boot latch. -/
theorem writeByte_eq (a : Word) (v : Byte) (s : State) :
    writeByte a v s = { s with ram := (writeByte a v s).ram, bootUnmap := (writeByte a v s).bootUnmap } := by
  unfold writeByte writeIo
  cases regionOf a <;> first | rfl | (dsimp only; split; rfl; split <;> rfl)

/-! `writeByte` field by field -/

@[simp] theorem writeByte_a (a : Word) (v : Byte) (s : State) : (writeByte a v s).a = s.a := by rw [writeByte_eq]
@[simp] theorem writeByte_f (a : Word) (v : Byte) (s : State) : (writeByte a v s).f = s.f := by rw [writeByte_eq]
@[simp] theorem writeByte_b (a : Word) (v : Byte) (s : State) : (writeByte a v s).b = s.b := by rw [writeByte_eq]
@[simp] theorem writeByte_c (a : Word) (v : Byte) (s : State) : (writeByte a v s).c = s.c := by rw [writeByte_eq]
@[simp] theorem writeByte_d (a : Word) (v : Byte) (s : State) : (writeByte a v s).d = s.d := by rw [writeByte_eq]
@[simp] theorem writeByte_e (a : Word) (v : Byte) (s : State) : (writeByte a v s).e = s.e := by rw [writeByte_eq]
@[simp] theorem writeByte_h (a : Word) (v : Byte) (s : State) : (writeByte a v s).h = s.h := by rw [writeByte_eq]
@[simp] theorem writeByte_l (a : Word) (v : Byte) (s : State) : (writeByte a v s).l = s.l := by rw [writeByte_eq]
@[simp] theorem writeByte_pc (a : Word) (v : Byte) (s : State) : (writeByte a v s).pc = s.pc := by rw [writeByte_eq]
@[simp] theorem writeByte_sp (a : Word) (v : Byte) (s : State) : (writeByte a v s).sp = s.sp := by rw [writeByte_eq]
@[simp] theorem writeByte_ime (a : Word) (v : Byte) (s : State) : (writeByte a v s).ime = s.ime := by rw [writeByte_eq]
@[simp] theorem writeByte_imeSched (a : Word) (v : Byte) (s : State) : (writeByte a v s).imeSched = s.imeSched := by rw [writeByte_eq]
@[simp] theorem writeByte_runState (a : Word) (v : Byte) (s : State) : (writeByte a v s).runState = s.runState := by rw [writeByte_eq]
@[simp] theorem writeByte_fault (a : Word) (v : Byte) (s : State) : (writeByte a v s).fault = s.fault := by rw [writeByte_eq]
@[simp] theorem writeByte_cycleCounter (a : Word) (v : Byte) (s : State) : (writeByte a v s).cycleCounter = s.cycleCounter := by rw [writeByte_eq]
@[simp] theorem writeByte_bootRom (a : Word) (v : Byte) (s : State) : (writeByte a v s).bootRom = s.bootRom := by rw [writeByte_eq]
@[simp] theorem writeByte_cart (a : Word) (v : Byte) (s : State) : (writeByte a v s).cart = s.cart := by rw [writeByte_eq]
@[simp] theorem writeByte_lcdAcc (a : Word) (v : Byte) (s : State) : (writeByte a v s).lcdAcc = s.lcdAcc := by rw [writeByte_eq]
@[simp] theorem writeByte_frameReady (a : Word) (v : Byte) (s : State) : (writeByte a v s).frameReady = s.frameReady := by rw [writeByte_eq]
@[simp] theorem writeByte_cyclesThisFrame (a : Word) (v : Byte) (s : State) : (writeByte a v s).cyclesThisFrame = s.cyclesThisFrame := by rw [writeByte_eq]
@[simp] theorem writeByte_buttonEvents (a : Word) (v : Byte) (s : State) : (writeByte a v s).buttonEvents = s.buttonEvents := by rw [writeByte_eq]
@[simp] theorem writeByte_draws (a : Word) (v : Byte) (s : State) : (writeByte a v s).draws = s.draws := by rw [writeByte_eq]
@[simp] theorem writeByte_ticks (a : Word) (v : Byte) (s : State) : (writeByte a v s).ticks = s.ticks := by rw [writeByte_eq]

/-- The byte a CPU write leaves at a cell: LY becomes 0 whatever is written (R92). -/
def writtenByte (k : Nat) (v : Byte) : Byte := if k = lyAddr then 0x00 else v

/-- The storage after a write: the cell behind the address, if there is one, holds the written byte (R75, R90 to R93). -/
theorem writeByte_ram (a : Word) (v : Byte) (s : State) :
    (writeByte a v s).ram =
      match cellOf a with
      | some k => Memory.store s.ram k (writtenByte k v)
      | none => s.ram := by
  have hb := regionOf_bounds a
  unfold writeByte cellOf
  cases hr : regionOf a <;> rw [hr] at hb <;> dsimp only at hb ⊢
  case io =>
    unfold writeIo writtenByte
    by_cases h1 : a.toNat = lyAddr
    · simp [h1]
    · by_cases h2 : a.toNat = bootAddr
      · simp only [h1, if_false, if_pos h2]; simp [h2]
      · simp [h1, h2]
  all_goals
    rw [State.poke_ram, writtenByte, if_neg]
    unfold lyAddr
    omega

/-- The latch after a write: set by a write to 0xFF50 with bit 0 set, never cleared (R93). -/
theorem writeByte_bootUnmap (a : Word) (v : Byte) (s : State) :
    (writeByte a v s).bootUnmap = (s.bootUnmap || (decide (a.toNat = bootAddr) && v.getLsbD 0)) := by
  unfold writeByte writeIo
  by_cases h : a.toNat = bootAddr
  · have hr : regionOf a = .io := regionOf_io (by rw [h]; unfold bootAddr; omega)
    have hne : ¬a.toNat = lyAddr := by rw [h]; unfold bootAddr lyAddr; omega
    rw [hr, if_neg hne, if_pos h, decide_eq_true h, Bool.true_and]
  · rw [decide_eq_false h, Bool.false_and, Bool.or_false]
    cases regionOf a <;> first | rfl | (dsimp only; rw [if_neg h]; split <;> rfl)

/-- A write leaves every address alone that does not share its storage byte; only the overlay's addresses may change with the
latch. -/
theorem State.peek_writeByte {s : State} (hm : Memory.wf s.ram) (a x : Word) (v : Byte)
    (hx : ∀ k, cellOf x = some k → cellOf a ≠ some k)
    (hl : x.toNat < 0x100 → (writeByte a v s).bootUnmap = s.bootUnmap) : (writeByte a v s).peek x = s.peek x := by
  refine State.peek_congr hl (by simp) (by simp) (fun k hk => ?_) (.inl (by simp))
  rw [writeByte_ram]
  cases ha : cellOf a with
  | none => rfl
  | some j =>
    simp only
    rw [Memory.load_store hm.1, if_neg]
    rintro rfl
    exact hx _ hk ha

/-- A write keeps the canonical form of the storage. -/
theorem writeByte_ram_wf {s : State} (hm : Memory.wf s.ram) (a : Word) (v : Byte) : Memory.wf (writeByte a v s).ram := by
  rw [writeByte_ram]; split
  · exact Memory.store_wf hm _ _
  · exact hm

/-- The cell behind an address is a storage address (R36). -/
theorem storageAddr_cellOf {a : Word} {k : Nat} (h : cellOf a = some k) : storageAddr k = true := by
  have hb := regionOf_bounds a
  unfold cellOf at h
  unfold storageAddr ramInitAddr
  simp only [Bool.or_eq_true, Bool.and_eq_true, decide_eq_true_eq, beq_iff_eq]
  cases hr : regionOf a <;> rw [hr] at hb h <;> dsimp only at hb h
  all_goals first | (have hk := Option.some.inj h; omega) | exact absurd h (by simp)

/-! ## The stack -/

/-- A push writes the high byte at SP - 1 and then the low byte at SP - 2, and leaves SP there (R200). -/
theorem push16_eq (w : Word) (s : State) :
    push16 w s = { writeByte (s.sp - 2) (loByte w) (writeByte (s.sp - 1) (hiByte w) s) with sp := s.sp - 2 } := by
  have h2 : s.sp - 1 - 1 = s.sp - 2 := by bv_omega
  have hw : ∀ (a : Word) (v : Byte) (p : Word) (t : State), writeByte a v { t with sp := p } = { writeByte a v t with sp := p } := by
    intro a v p t
    unfold writeByte writeIo
    cases regionOf a <;> first | rfl | (dsimp only; split; rfl; split <;> rfl)
  unfold push16
  dsimp only
  rw [hw (s.sp - 1) (hiByte w) (s.sp - 1) s]
  dsimp only
  rw [h2, hw]

/-- A pop reads the low byte at SP and the high byte at SP + 1, and leaves SP two higher (R201). -/
theorem pop16_eq (s : State) :
    pop16 s = (wordOf ((s.touch s.sp).peek (s.sp + 1)) (s.peek s.sp), { (s.touch s.sp).touch (s.sp + 1) with sp := s.sp + 2 }) := by
  have h2 : s.sp + 1 + 1 = s.sp + 2 := by bv_omega
  have hp : ∀ (a p : Word) (t : State), { t with sp := p }.peek a = t.peek a := fun a p t =>
    State.peek_congr (fun _ => rfl) rfl rfl (fun _ _ => rfl) (.inl rfl)
  unfold pop16 readByte
  dsimp only
  rw [State.touch_eq { s.touch s.sp with sp := _ }, State.touch_eq (s.touch s.sp)]
  simp only [State.touch_sp, hp, h2]


/-- The storage after a CPU write: the cell behind the address, if it has one. -/
def storeCell (a : Word) (v : Byte) (m : Memory) : Memory :=
  match cellOf a with
  | some k => Memory.store m k (writtenByte k v)
  | none => m

/-- The latch after a CPU write (R93). -/
def latchAfter (a : Word) (v : Byte) (latch : Bool) : Bool := latch || (decide (a.toNat = bootAddr) && v.getLsbD 0)

/-- A CPU write in one record update: everything it can do. -/
theorem writeByte_nf (a : Word) (v : Byte) (s : State) :
    writeByte a v s = { s with ram := storeCell a v s.ram, bootUnmap := latchAfter a v s.bootUnmap } := by
  rw [writeByte_eq, writeByte_ram, writeByte_bootUnmap]; rfl

/-- A push in one record update. -/
theorem push16_nf (w : Word) (s : State) :
    push16 w s = { s with
      sp := s.sp - 2
      ram := storeCell (s.sp - 2) (loByte w) (storeCell (s.sp - 1) (hiByte w) s.ram)
      bootUnmap := latchAfter (s.sp - 2) (loByte w) (latchAfter (s.sp - 1) (hiByte w) s.bootUnmap) } := by
  rw [push16_eq, writeByte_nf, writeByte_nf]

/-! `push16` field by field -/

@[simp] theorem push16_a (w : Word) (s : State) : (push16 w s).a = s.a := by simp [push16_eq]
@[simp] theorem push16_f (w : Word) (s : State) : (push16 w s).f = s.f := by simp [push16_eq]
@[simp] theorem push16_b (w : Word) (s : State) : (push16 w s).b = s.b := by simp [push16_eq]
@[simp] theorem push16_c (w : Word) (s : State) : (push16 w s).c = s.c := by simp [push16_eq]
@[simp] theorem push16_d (w : Word) (s : State) : (push16 w s).d = s.d := by simp [push16_eq]
@[simp] theorem push16_e (w : Word) (s : State) : (push16 w s).e = s.e := by simp [push16_eq]
@[simp] theorem push16_h (w : Word) (s : State) : (push16 w s).h = s.h := by simp [push16_eq]
@[simp] theorem push16_l (w : Word) (s : State) : (push16 w s).l = s.l := by simp [push16_eq]
@[simp] theorem push16_pc (w : Word) (s : State) : (push16 w s).pc = s.pc := by simp [push16_eq]
@[simp] theorem push16_sp (w : Word) (s : State) : (push16 w s).sp = s.sp - 2 := by simp [push16_eq]
@[simp] theorem push16_ime (w : Word) (s : State) : (push16 w s).ime = s.ime := by simp [push16_eq]
@[simp] theorem push16_imeSched (w : Word) (s : State) : (push16 w s).imeSched = s.imeSched := by simp [push16_eq]
@[simp] theorem push16_runState (w : Word) (s : State) : (push16 w s).runState = s.runState := by simp [push16_eq]
@[simp] theorem push16_fault (w : Word) (s : State) : (push16 w s).fault = s.fault := by simp [push16_eq]
@[simp] theorem push16_cycleCounter (w : Word) (s : State) : (push16 w s).cycleCounter = s.cycleCounter := by simp [push16_eq]
@[simp] theorem push16_bootRom (w : Word) (s : State) : (push16 w s).bootRom = s.bootRom := by simp [push16_eq]
@[simp] theorem push16_cart (w : Word) (s : State) : (push16 w s).cart = s.cart := by simp [push16_eq]
@[simp] theorem push16_lcdAcc (w : Word) (s : State) : (push16 w s).lcdAcc = s.lcdAcc := by simp [push16_eq]
@[simp] theorem push16_frameReady (w : Word) (s : State) : (push16 w s).frameReady = s.frameReady := by simp [push16_eq]
@[simp] theorem push16_cyclesThisFrame (w : Word) (s : State) : (push16 w s).cyclesThisFrame = s.cyclesThisFrame := by simp [push16_eq]
@[simp] theorem push16_buttonEvents (w : Word) (s : State) : (push16 w s).buttonEvents = s.buttonEvents := by simp [push16_eq]
@[simp] theorem push16_draws (w : Word) (s : State) : (push16 w s).draws = s.draws := by simp [push16_eq]
@[simp] theorem push16_ticks (w : Word) (s : State) : (push16 w s).ticks = s.ticks := by simp [push16_eq]

/-! `pop16` field by field -/

@[simp] theorem pop16_snd_a (s : State) : ((pop16 s).2).a = s.a := by simp [pop16_eq]
@[simp] theorem pop16_snd_f (s : State) : ((pop16 s).2).f = s.f := by simp [pop16_eq]
@[simp] theorem pop16_snd_b (s : State) : ((pop16 s).2).b = s.b := by simp [pop16_eq]
@[simp] theorem pop16_snd_c (s : State) : ((pop16 s).2).c = s.c := by simp [pop16_eq]
@[simp] theorem pop16_snd_d (s : State) : ((pop16 s).2).d = s.d := by simp [pop16_eq]
@[simp] theorem pop16_snd_e (s : State) : ((pop16 s).2).e = s.e := by simp [pop16_eq]
@[simp] theorem pop16_snd_h (s : State) : ((pop16 s).2).h = s.h := by simp [pop16_eq]
@[simp] theorem pop16_snd_l (s : State) : ((pop16 s).2).l = s.l := by simp [pop16_eq]
@[simp] theorem pop16_snd_pc (s : State) : ((pop16 s).2).pc = s.pc := by simp [pop16_eq]
@[simp] theorem pop16_snd_sp (s : State) : ((pop16 s).2).sp = s.sp + 2 := by simp [pop16_eq]
@[simp] theorem pop16_snd_ime (s : State) : ((pop16 s).2).ime = s.ime := by simp [pop16_eq]
@[simp] theorem pop16_snd_imeSched (s : State) : ((pop16 s).2).imeSched = s.imeSched := by simp [pop16_eq]
@[simp] theorem pop16_snd_runState (s : State) : ((pop16 s).2).runState = s.runState := by simp [pop16_eq]
@[simp] theorem pop16_snd_fault (s : State) : ((pop16 s).2).fault = s.fault := by simp [pop16_eq]
@[simp] theorem pop16_snd_cycleCounter (s : State) : ((pop16 s).2).cycleCounter = s.cycleCounter := by simp [pop16_eq]
@[simp] theorem pop16_snd_bootUnmap (s : State) : ((pop16 s).2).bootUnmap = s.bootUnmap := by simp [pop16_eq]
@[simp] theorem pop16_snd_bootRom (s : State) : ((pop16 s).2).bootRom = s.bootRom := by simp [pop16_eq]
@[simp] theorem pop16_snd_cart (s : State) : ((pop16 s).2).cart = s.cart := by simp [pop16_eq]
@[simp] theorem pop16_snd_ram (s : State) : ((pop16 s).2).ram = s.ram := by simp [pop16_eq]
@[simp] theorem pop16_snd_lcdAcc (s : State) : ((pop16 s).2).lcdAcc = s.lcdAcc := by simp [pop16_eq]
@[simp] theorem pop16_snd_frameReady (s : State) : ((pop16 s).2).frameReady = s.frameReady := by simp [pop16_eq]
@[simp] theorem pop16_snd_cyclesThisFrame (s : State) : ((pop16 s).2).cyclesThisFrame = s.cyclesThisFrame := by simp [pop16_eq]
@[simp] theorem pop16_snd_buttonEvents (s : State) : ((pop16 s).2).buttonEvents = s.buttonEvents := by simp [pop16_eq]
@[simp] theorem pop16_snd_ticks (s : State) : ((pop16 s).2).ticks = s.ticks := by simp [pop16_eq]

end Sys2Proof.Machine
end

