-- ==== Sys2Proof/Laws/Exec.lean ====
section
/-! SUPPORT. The meaning of a row in terms of its form: a proof about all rows splits over the rules of the spec instead. -/

namespace Sys2Proof

/-- Every row is the row of its own form. -/
theorem Instr.row_form (i : Instr) : i.form.row = i := by cases i <;> rfl

namespace Machine

/-- The meaning of a form: the shared operation that its rows call. -/
def formMeaning : Form → State → Result
  | .nop, s => execNop s
  | .ldPairD16 p w, s => ldPairD16Op p w 3 12 s
  | .ldMemBcA, s => execLdMemBcA s
  | .incPair p, s => incPairOp p 1 8 s
  | .inc x, s => incOp x 1 (r8Cycles x 4 12) s
  | .dec x, s => decOp x 1 (r8Cycles x 4 12) s
  | .ldRegD8 x n, s => ldRegD8Op x n 2 8 s
  | .rlca, s => execRlca s
  | .ldMemA16Sp a16, s => execLdMemA16Sp a16 s
  | .addHl p, s => addHlOp p 1 8 s
  | .ldAMemBc, s => execLdAMemBc s
  | .decPair p, s => decPairOp p 1 8 s
  | .rrca, s => execRrca s
  | .stop pad, s => execStop pad s
  | .ldMemDeA, s => execLdMemDeA s
  | .rla, s => execRla s
  | .jrR8 r8, s => execJrR8 r8 s
  | .ldAMemDe, s => execLdAMemDe s
  | .rra, s => execRra s
  | .jrCc cc n, s => jrCcOp cc n 2 12 8 s
  | .ldMemHlIncA, s => execLdMemHlIncA s
  | .daa, s => execDaa s
  | .ldAMemHlInc, s => execLdAMemHlInc s
  | .cpl, s => execCpl s
  | .ldMemHlDecA, s => execLdMemHlDecA s
  | .ldMemHlD8 d8, s => execLdMemHlD8 d8 s
  | .scf, s => execScf s
  | .ldAMemHlDec, s => execLdAMemHlDec s
  | .ccf, s => execCcf s
  | .ldRegReg x y, s => ldRegRegOp x y 1 4 s
  | .ldRegMemHl x, s => ldRegMemHlOp x 1 8 s
  | .ldMemHlReg x, s => ldMemHlRegOp x 1 8 s
  | .halt, s => execHalt s
  | .alu op x, s => aluOp op x 1 (r8Cycles x 4 8) s
  | .retCc cc, s => retCcOp cc 1 20 8 s
  | .pop p, s => popOp p 1 12 s
  | .jpCc cc w, s => jpCcOp cc w 3 16 12 s
  | .jpA16 a16, s => execJpA16 a16 s
  | .callCc cc w, s => callCcOp cc w 3 24 12 s
  | .push p, s => pushOp p 1 16 s
  | .aluD8 op n, s => aluD8Op op n 2 8 s
  | .rst t, s => rstOp t 1 16 s
  | .ret, s => execRet s
  | .prefixCb, s => execPrefixCb s
  | .callA16 a16, s => execCallA16 a16 s
  | .undefined u, s => undefinedOp u.byte s
  | .reti, s => execReti s
  | .ldhMemA8A a8, s => execLdhMemA8A a8 s
  | .ldMemCA, s => execLdMemCA s
  | .addSpR8 r8, s => execAddSpR8 r8 s
  | .jpMemHl, s => execJpMemHl s
  | .ldMemA16A a16, s => execLdMemA16A a16 s
  | .ldhAMemA8 a8, s => execLdhAMemA8 a8 s
  | .ldAMemC, s => execLdAMemC s
  | .di, s => execDi s
  | .ldHlSpPlusR8 r8, s => execLdHlSpPlusR8 r8 s
  | .ldSpHl, s => execLdSpHl s
  | .ldAMemA16 a16, s => execLdAMemA16 a16 s
  | .ei, s => execEi s
  | .cbRot op x, s => cbRotOp op x 2 (r8Cycles x 8 16) s
  | .bit b x, s => bitOp b x 2 (r8Cycles x 8 12) s
  | .res b x, s => resOp b x 2 (r8Cycles x 8 16) s
  | .set b x, s => setOp b x 2 (r8Cycles x 8 16) s

/-- A row runs as its form's shared operation. -/
theorem exec_eq_form (i : Instr) (s : State) : exec i s = formMeaning i.form s := by cases i <;> rfl


theorem exec_row (f : Form) (s : State) : exec f.row s = formMeaning f s := by
  cases f with
  | nop => rfl
  | ldPairD16 p w => cases p <;> rfl
  | ldMemBcA => rfl
  | incPair p => cases p <;> rfl
  | inc x => cases x with | reg r => cases r <;> rfl | memHl => rfl
  | dec x => cases x with | reg r => cases r <;> rfl | memHl => rfl
  | ldRegD8 x n => cases x <;> rfl
  | rlca => rfl
  | ldMemA16Sp v => rfl
  | addHl p => cases p <;> rfl
  | ldAMemBc => rfl
  | decPair p => cases p <;> rfl
  | rrca => rfl
  | stop v => rfl
  | ldMemDeA => rfl
  | rla => rfl
  | jrR8 v => rfl
  | ldAMemDe => rfl
  | rra => rfl
  | jrCc cc n => cases cc <;> rfl
  | ldMemHlIncA => rfl
  | daa => rfl
  | ldAMemHlInc => rfl
  | cpl => rfl
  | ldMemHlDecA => rfl
  | ldMemHlD8 v => rfl
  | scf => rfl
  | ldAMemHlDec => rfl
  | ccf => rfl
  | ldRegReg x y => cases x <;> cases y <;> rfl
  | ldRegMemHl x => cases x <;> rfl
  | ldMemHlReg x => cases x <;> rfl
  | halt => rfl
  | alu op x => cases op <;> (cases x with | reg r => cases r <;> rfl | memHl => rfl)
  | retCc cc => cases cc <;> rfl
  | pop p => cases p <;> rfl
  | jpCc cc w => cases cc <;> rfl
  | jpA16 v => rfl
  | callCc cc w => cases cc <;> rfl
  | push p => cases p <;> rfl
  | aluD8 op n => cases op <;> rfl
  | rst t => fin_cases t <;> rfl
  | ret => rfl
  | prefixCb => rfl
  | callA16 v => rfl
  | undefined u => cases u <;> rfl
  | reti => rfl
  | ldhMemA8A v => rfl
  | ldMemCA => rfl
  | addSpR8 v => rfl
  | jpMemHl => rfl
  | ldMemA16A v => rfl
  | ldhAMemA8 v => rfl
  | ldAMemC => rfl
  | di => rfl
  | ldHlSpPlusR8 v => rfl
  | ldSpHl => rfl
  | ldAMemA16 v => rfl
  | ei => rfl
  | cbRot op x => cases op <;> (cases x with | reg r => cases r <;> rfl | memHl => rfl)
  | bit b x => fin_cases b <;> (cases x with | reg r => cases r <;> rfl | memHl => rfl)
  | res b x => fin_cases b <;> (cases x with | reg r => cases r <;> rfl | memHl => rfl)
  | set b x => fin_cases b <;> (cases x with | reg r => cases r <;> rfl | memHl => rfl)

end Machine
end Sys2Proof
end

