-- ==== Sys2Proof/Laws/Effects.lean ====
section
/-! SUPPORT. Once for all: everything an instruction can change (`exec_row_effect`), by the tables of Sys2Proof/Machine/Effects.lean. -/

namespace Sys2Proof.Machine

set_option linter.unusedSimpArgs false

/-- The writes an instruction makes, address and byte, in order. -/
def writesOf (f : Form) (s : State) : List (Word × Byte) :=
  match f with
  | .ldMemHlReg r => [(s.hl, s.reg r)]
  | .ldMemHlD8 n => [(s.hl, n)]
  | .ldMemHlIncA | .ldMemHlDecA => [(s.hl, s.a)]
  | .inc .memHl => [(s.hl, s.peek s.hl + 1)]
  | .dec .memHl => [(s.hl, s.peek s.hl - 1)]
  | .cbRot op .memHl => [(s.hl, rotValue op (s.peek s.hl) s.flagC)]
  | .res b .memHl => [(s.hl, s.peek s.hl &&& ~~~((1 : Byte) <<< b.val))]
  | .set b .memHl => [(s.hl, s.peek s.hl ||| (1 : Byte) <<< b.val)]
  | .ldMemBcA => [(s.bc, s.a)]
  | .ldMemDeA => [(s.de, s.a)]
  | .ldhMemA8A n => [(highPage n, s.a)]
  | .ldMemCA => [(highPage s.c, s.a)]
  | .ldMemA16A a => [(a, s.a)]
  | .ldMemA16Sp a => [(a, loByte s.sp), (a + 1, hiByte s.sp)]
  | .push p => [(s.sp - 1, hiByte (s.stackPair p)), (s.sp - 2, loByte (s.stackPair p))]
  | .callA16 _ => [(s.sp - 1, hiByte (s.pc + 3)), (s.sp - 2, loByte (s.pc + 3))]
  | .rst _ => [(s.sp - 1, hiByte (s.pc + 1)), (s.sp - 2, loByte (s.pc + 1))]
  | .callCc cc _ => if s.cond cc then [(s.sp - 1, hiByte (s.pc + 3)), (s.sp - 2, loByte (s.pc + 3))] else []
  | _ => []

/-- CPU writes one after another. -/
def writeAll : List (Word × Byte) → State → State
  | [], s => s
  | (a, v) :: ws, s => writeAll ws (writeByte a v s)

theorem writesOf_stores (f : Form) (s : State) : (writesOf f s).map Prod.fst = f.stores s := by
  cases f with
  | inc x => cases x <;> rfl
  | dec x => cases x <;> rfl
  | cbRot op x => cases x <;> rfl
  | res b x => cases x <;> rfl
  | set b x => cases x <;> rfl
  | callCc cc a => simp only [writesOf, Form.stores]; split <;> rfl
  | _ => rfl

/-- Everything an instruction does but its PC and its results. -/
structure Effect (f : Form) (s t : State) : Prop where
  regs : ∀ r, f.writesReg r = false → t.reg r = s.reg r
  sp : t.sp = f.spAfter s
  flag : ∀ fl, match f.flagEntry fl with
    | .leave => t.flag fl = s.flag fl
    | .clear => t.flag fl = false
    | .set => t.flag fl = true
    | .compute => True
  flagsLow : s.f &&& 0x0F = 0 → t.f &&& 0x0F = 0
  flagsKept : f.flagEntries = (.leave, .leave, .leave, .leave) → t.f = s.f
  ime : (t.ime, t.imeSched) = f.imeAfter s
  run : t.runState = f.runAfter s
  faultKept : (∀ u, f ≠ .undefined u) → t.fault = s.fault
  faultSet : (∃ u, f = .undefined u) → t.fault.isSome = true
  cycles : t.cycleCounter = s.cycleCounter + f.cycles s
  bootRom : t.bootRom = s.bootRom
  cart : t.cart = s.cart
  ram : t.ram = (writeAll (writesOf f s) s).ram
  bootUnmap : t.bootUnmap = (writeAll (writesOf f s) s).bootUnmap
  lcdAcc : t.lcdAcc = s.lcdAcc
  frameReady : t.frameReady = s.frameReady
  cyclesThisFrame : t.cyclesThisFrame = s.cyclesThisFrame
  buttonEvents : t.buttonEvents = s.buttonEvents
  ticks : t.ticks = s.ticks

/-! The writes of a form, one line each -/

/-- A masked F keeps bits 3 to 0 at 0 (R24). -/
theorem mask_low (v : Byte) : (v &&& 0xF0) &&& 0x0F = 0 := by
  rw [BitVec.and_assoc]; simp

@[simp] theorem writesOf_ldMemHlReg (s : State) (r : Reg) : writesOf (.ldMemHlReg r) s = [(s.hl, s.reg r)] := rfl
@[simp] theorem writesOf_ldMemHlD8 (s : State) (n : Byte) : writesOf (.ldMemHlD8 n) s = [(s.hl, n)] := rfl
@[simp] theorem writesOf_ldMemHlIncA (s : State) : writesOf .ldMemHlIncA s = [(s.hl, s.a)] := rfl
@[simp] theorem writesOf_ldMemHlDecA (s : State) : writesOf .ldMemHlDecA s = [(s.hl, s.a)] := rfl
@[simp] theorem writesOf_inc (s : State) : writesOf (.inc .memHl) s = [(s.hl, s.peek s.hl + 1)] := rfl
@[simp] theorem writesOf_dec (s : State) : writesOf (.dec .memHl) s = [(s.hl, s.peek s.hl - 1)] := rfl
@[simp] theorem writesOf_cbRot (s : State) (op : Rot) : writesOf (.cbRot op .memHl) s = [(s.hl,
  rotValue op (s.peek s.hl) s.flagC)] := rfl
@[simp] theorem writesOf_res (s : State) (b : Fin 8) : writesOf (.res b .memHl) s = [(s.hl,
  s.peek s.hl &&& ~~~((1 : Byte) <<< b.val))] := rfl
@[simp] theorem writesOf_set (s : State) (b : Fin 8) : writesOf (.set b .memHl) s = [(s.hl,
  s.peek s.hl ||| (1 : Byte) <<< b.val)] := rfl
@[simp] theorem writesOf_ldMemBcA (s : State) : writesOf .ldMemBcA s = [(s.bc, s.a)] := rfl
@[simp] theorem writesOf_ldMemDeA (s : State) : writesOf .ldMemDeA s = [(s.de, s.a)] := rfl
@[simp] theorem writesOf_ldhMemA8A (s : State) (n : Byte) : writesOf (.ldhMemA8A n) s = [(highPage n, s.a)] := rfl
@[simp] theorem writesOf_ldMemCA (s : State) : writesOf .ldMemCA s = [(highPage s.c, s.a)] := rfl
@[simp] theorem writesOf_ldMemA16A (s : State) (a : Word) : writesOf (.ldMemA16A a) s = [(a, s.a)] := rfl
@[simp] theorem writesOf_ldMemA16Sp (s : State) (a : Word) : writesOf (.ldMemA16Sp a) s = [(a, loByte s.sp), (a + 1,
  hiByte s.sp)] := rfl
@[simp] theorem writesOf_push (s : State) (p : StackPair) : writesOf (.push p) s = [(s.sp - 1, hiByte (s.stackPair p)),
  (s.sp - 2, loByte (s.stackPair p))] := rfl
@[simp] theorem writesOf_callA16 (s : State) (a : Word) : writesOf (.callA16 a) s = [(s.sp - 1, hiByte (s.pc + 3)), (s.sp - 2,
  loByte (s.pc + 3))] := rfl
@[simp] theorem writesOf_rst (s : State) (t : Fin 8) : writesOf (.rst t) s = [(s.sp - 1, hiByte (s.pc + 1)), (s.sp - 2,
  loByte (s.pc + 1))] := rfl
@[simp] theorem writesOf_callCc (s : State) (cc : Cond) (a : Word) : writesOf (.callCc cc a) s =
  if s.cond cc then [(s.sp - 1, hiByte (s.pc + 3)), (s.sp - 2, loByte (s.pc + 3))] else [] := rfl
theorem spAfter_callCc (s : State) (cc : Cond) (a : Word) : (Form.callCc cc a).spAfter s = if s.cond cc then s.sp - 2 else s.sp := rfl
theorem spAfter_retCc (s : State) (cc : Cond) : (Form.retCc cc).spAfter s = if s.cond cc then s.sp + 2 else s.sp := rfl
theorem cycles_jrCc (s : State) (cc : Cond) (e : Byte) : (Form.jrCc cc e).cycles s = if s.cond cc then 12 else 8 := rfl
theorem cycles_jpCc (s : State) (cc : Cond) (a : Word) : (Form.jpCc cc a).cycles s = if s.cond cc then 16 else 12 := rfl
theorem cycles_callCc (s : State) (cc : Cond) (a : Word) : (Form.callCc cc a).cycles s = if s.cond cc then 24 else 12 := rfl
theorem cycles_retCc (s : State) (cc : Cond) : (Form.retCc cc).cycles s = if s.cond cc then 20 else 8 := rfl

@[simp] theorem daa8_n (a : Byte) (n h c : Bool) : (daa8 a n h c).n = n := by cases n <;> rfl
@[simp] theorem daa8_h (a : Byte) (n h c : Bool) : (daa8 a n h c).h = false := by cases n <;> rfl

/-- The conditional jumps, calls and returns (R322, R325, R327, R329). -/
def isConditional : Form → Bool
  | .jpCc _ _ | .jrCc _ _ | .callCc _ _ | .retCc _ => true
  | _ => false

theorem conditional_effect (s : State) (f : Form) (hf : isConditional f = true) :
    ∃ t, formMeaning f s = .next t ∧ Effect f s t := by
  have key : ∀ cc, (∀ a, ∃ t, formMeaning (.jpCc cc a) s = .next t ∧ Effect (.jpCc cc a) s t) ∧
      (∀ a, ∃ t, formMeaning (.jrCc cc a) s = .next t ∧ Effect (.jrCc cc a) s t) ∧
      (∀ a, ∃ t, formMeaning (.callCc cc a) s = .next t ∧ Effect (.callCc cc a) s t) ∧
      (∃ t, formMeaning (.retCc cc) s = .next t ∧ Effect (.retCc cc) s t) := by
    intro cc
    by_cases hc : s.cond cc = true
    all_goals
      refine ⟨fun a => ?_, fun a => ?_, fun a => ?_, ?_⟩
    all_goals
      simp only [formMeaning, retireIf, jpCcOp, jrCcOp, callCcOp, retCcOp, hc, if_true, if_false, Bool.false_eq_true]
      refine ⟨_, rfl, ?_⟩
      simp only [callTo, returnFrom, id, State.jumpRel, State.advance, State.tick, State.jump, State.touch_eq, push16_nf,
        pop16_eq]
      constructor
      · intro r; cases r <;> intro h <;> rfl
      · first | rfl | simp only [spAfter_callCc, spAfter_retCc, hc, if_true, if_false, Bool.false_eq_true]
      · intro fl; cases fl <;> rfl
      · exact id
      · intro _; rfl
      · rfl
      · rfl
      · intro _; rfl
      · rintro ⟨u, hu⟩; cases hu
      · simp only [cycles_jrCc, cycles_jpCc, cycles_callCc, cycles_retCc, hc, if_true, if_false, Bool.false_eq_true]
      · rfl
      · rfl
      · first
          | rfl
          | (simp only [writesOf_callCc, hc, if_true, if_false, Bool.false_eq_true, writeAll, writeByte_nf] <;> first | done | rfl)
      · first
          | rfl
          | (simp only [writesOf_callCc, hc, if_true, if_false, Bool.false_eq_true, writeAll, writeByte_nf] <;> first | done | rfl)
      · rfl
      · rfl
      · rfl
      · rfl
      · rfl
  cases f <;> first | cases hf; done | skip
  all_goals first | exact (key _).1 _ | exact (key _).2.1 _ | exact (key _).2.2.1 _ | exact (key _).2.2.2

/-- What an instruction does to every part of the state, whatever the state: it answers a next state, and this one. -/
theorem exec_row_effect (f : Form) (hp : f ≠ .prefixCb) (s : State) : ∃ t, exec f.row s = .next t ∧ Effect f s t := by
  rw [exec_row]
  rcases f with _ | _ | ⟨p⟩ | _ | _ | ⟨(_ | _ | _ | _ | _ | _ | _), y⟩ | ⟨(_ | _ | _ | _ | _ | _ | _)⟩ | ⟨x⟩ | ⟨(_ | _ | _
    | _ | _ | _ | _), n⟩ | ⟨n⟩ | _ | _ | _ | _ | _ | _ | _ | _ | ⟨n⟩ | ⟨n⟩ | _ | _ | ⟨a⟩ | ⟨a⟩ | ⟨(_ | _ | _ | _), w⟩ | ⟨a⟩
    | _ | ⟨x⟩ | ⟨(_ | _ | _ | _)⟩ | ⟨(_ | _ | _ | _ | _ | _ | _ | _), (r | _)⟩ | ⟨(_ | _ | _ | _ | _ | _ | _ | _), n⟩ | ⟨((_
    | _ | _ | _ | _ | _ | _) | _)⟩ | ⟨((_ | _ | _ | _ | _ | _ | _) | _)⟩ | _ | _ | _ | _ | ⟨x⟩ | ⟨(_ | _ | _ | _)⟩ | ⟨(_ | _
    | _ | _)⟩ | ⟨n⟩ | ⟨n⟩ | _ | _ | _ | _ | ⟨(_ | _ | _ | _ | _ | _ | _ | _), ((_ | _ | _ | _ | _ | _ | _) | _)⟩ | ⟨b, (r
    | _)⟩ | ⟨b, ((_ | _ | _ | _ | _ | _ | _) | _)⟩ | ⟨b, ((_ | _ | _ | _ | _ | _ | _) | _)⟩ | ⟨a⟩ | ⟨cc, a⟩ | _ | ⟨e⟩ | ⟨cc, e⟩
    | ⟨a⟩ | ⟨cc, a⟩ | _ | ⟨cc⟩ | _ | ⟨t⟩ | _ | ⟨u⟩
  all_goals try exact absurd rfl hp
  all_goals try exact conditional_effect s _ rfl
  all_goals
    refine ⟨_, rfl, ?_⟩
    simp only [ldRegRegOp, ldRegMemHlOp, ldMemHlRegOp, ldRegD8Op, loadA, execLdMemHlD8, execLdAMemBc,
      execLdAMemDe, execLdMemBcA, execLdMemDeA, execLdMemHlIncA, execLdAMemHlInc, execLdMemHlDecA, execLdAMemHlDec,
      execLdhMemA8A, execLdhAMemA8, execLdMemCA, execLdAMemC, execLdMemA16A, execLdAMemA16, ldPairD16Op, execLdMemA16Sp,
      execLdSpHl, pushOp, popOp, aluOp, aluD8Op, applyAlu, incOp, decOp, modifyR8, readR8, writeR8, execDaa, execCpl, execScf,
      execCcf, addHlOp, incPairOp, decPairOp, execAddSpR8, execLdHlSpPlusR8, execRlca, execRla, execRrca, execRra, rotateA,
      cbRotOp, bitOp, resOp, setOp, execJpA16, execJpMemHl, execJrR8, execCallA16, callTo, execRet, returnFrom, execReti,
      returnFromInterrupt, rstOp, undefinedOp, execNop, execHalt, execStop, execDi, execEi, id, State.jumpRel, State.flagsFrom,
      State.setSpFlags, State.setReg, State.setPair, State.setStackPair, State.advance, State.tick, State.jump, State.setFlags,
      State.setHl, State.setBc, State.setDe, State.setAf, raiseIllegal, readByte, State.touch_eq, writeWord, push16_nf,
      writeByte_nf, pop16_eq]
    constructor
    · intro r; cases r <;> intro h <;> first | rfl | cases h
    · rfl
    · intro fl
      cases fl <;> simp only [Form.flagEntry, Form.flagEntries] <;>
        first
        | trivial
        | (simp only [State.flag, State.flagZ, State.flagN, State.flagH, State.flagC, packFlags_z, packFlags_n, packFlags_h,
            packFlags_c, daa8_n, daa8_h] <;> first | done | rfl)
    · first | (intro _; simp only [packFlags_low, mask_low]; done) | exact id
    · first | (intro _; rfl) | (intro h; cases h)
    · rfl
    · rfl
    · first | (intro _; rfl) | (intro h; exact absurd rfl (h _))
    · first | (rintro ⟨u, hu⟩; cases hu; done) | (intro _; rfl)
    · rfl
    · rfl
    · rfl
    · first
        | rfl
        | (simp only [writesOf_ldMemHlReg, writesOf_ldMemHlD8, writesOf_ldMemHlIncA, writesOf_ldMemHlDecA, writesOf_inc,
            writesOf_dec, writesOf_cbRot, writesOf_res, writesOf_set, writesOf_ldMemBcA, writesOf_ldMemDeA, writesOf_ldhMemA8A,
            writesOf_ldMemCA, writesOf_ldMemA16A, writesOf_ldMemA16Sp, writesOf_push, writesOf_callA16, writesOf_rst, writeAll,
            writeByte_nf] <;> first | done | rfl)
    · first
        | rfl
        | (simp only [writesOf_ldMemHlReg, writesOf_ldMemHlD8, writesOf_ldMemHlIncA, writesOf_ldMemHlDecA, writesOf_inc,
            writesOf_dec, writesOf_cbRot, writesOf_res, writesOf_set, writesOf_ldMemBcA, writesOf_ldMemDeA, writesOf_ldhMemA8A,
            writesOf_ldMemCA, writesOf_ldMemA16A, writesOf_ldMemA16Sp, writesOf_push, writesOf_callA16, writesOf_rst, writeAll,
            writeByte_nf] <;> first | done | rfl)
    · rfl
    · rfl
    · rfl
    · rfl
    · rfl

end Sys2Proof.Machine
end

