-- ==== Sys2Proof/Laws/Encoding.lean ====
section
/-! SUPPORT. The two opcode pages against the encoder, slot by slot: a row of sixteen at a time. -/

namespace Sys2Proof

/-- What the slot of a first byte has to do with the encoder. -/
def Slot.encodesAt (b : Byte) : Slot → Prop
  | .op i => encode i = [b]
  | .byte f => ∀ n, encode (f n) = [b, n]
  | .word f => ∀ w, encode (f w) = [b, loByte w, hiByte w]
  | .second => b = 0xCB

/-- Consecutive slots from a first byte on. -/
def slotsEncode : Nat → List Slot → Prop
  | _, [] => True
  | k, x :: xs => x.encodesAt (BitVec.ofNat 8 k) ∧ slotsEncode (k + 1) xs

theorem slotsEncode_append {k : Nat} {xs ys : List Slot} (hx : slotsEncode k xs) (hy : slotsEncode (k + xs.length) ys) :
    slotsEncode k (xs ++ ys) := by
  induction xs generalizing k with
  | nil => exact hy
  | cons x xs ih =>
    refine ⟨hx.1, ih hx.2 ?_⟩
    rwa [List.length_cons, Nat.add_comm xs.length, ← Nat.add_assoc] at hy

theorem slotsEncode_get {k : Nat} {xs : List Slot} (h : slotsEncode k xs) (n : Nat) (hn : n < xs.length) :
    xs[n].encodesAt (BitVec.ofNat 8 (k + n)) := by
  induction xs generalizing k n with
  | nil => exact absurd hn (Nat.not_lt_zero n)
  | cons x xs ih =>
    cases n with
    | zero => exact h.1
    | succ n =>
      have := ih h.2 n (Nat.lt_of_succ_lt_succ hn)
      rwa [Nat.add_assoc, Nat.add_comm 1 n] at this

theorem mainRow0_encodes : slotsEncode 0x00 mainRow0 :=
  ⟨rfl, fun _ => rfl, rfl, rfl, rfl, rfl, fun _ => rfl, rfl, fun _ => rfl, rfl, rfl, rfl, rfl, rfl, fun _ => rfl, rfl, trivial⟩
theorem mainRow1_encodes : slotsEncode 0x10 mainRow1 :=
  ⟨fun _ => rfl, fun _ => rfl, rfl, rfl, rfl, rfl, fun _ => rfl, rfl, fun _ => rfl, rfl, rfl, rfl, rfl, rfl, fun _ => rfl, rfl, trivial⟩
theorem mainRow2_encodes : slotsEncode 0x20 mainRow2 :=
  ⟨fun _ => rfl, fun _ => rfl, rfl, rfl, rfl, rfl, fun _ => rfl, rfl, fun _ => rfl, rfl, rfl, rfl, rfl, rfl, fun _ => rfl, rfl, trivial⟩
theorem mainRow3_encodes : slotsEncode 0x30 mainRow3 :=
  ⟨fun _ => rfl, fun _ => rfl, rfl, rfl, rfl, rfl, fun _ => rfl, rfl, fun _ => rfl, rfl, rfl, rfl, rfl, rfl, fun _ => rfl, rfl, trivial⟩
theorem mainRow4_encodes : slotsEncode 0x40 mainRow4 :=
  ⟨rfl, rfl, rfl, rfl, rfl, rfl, rfl, rfl, rfl, rfl, rfl, rfl, rfl, rfl, rfl, rfl, trivial⟩
theorem mainRow5_encodes : slotsEncode 0x50 mainRow5 :=
  ⟨rfl, rfl, rfl, rfl, rfl, rfl, rfl, rfl, rfl, rfl, rfl, rfl, rfl, rfl, rfl, rfl, trivial⟩
theorem mainRow6_encodes : slotsEncode 0x60 mainRow6 :=
  ⟨rfl, rfl, rfl, rfl, rfl, rfl, rfl, rfl, rfl, rfl, rfl, rfl, rfl, rfl, rfl, rfl, trivial⟩
theorem mainRow7_encodes : slotsEncode 0x70 mainRow7 :=
  ⟨rfl, rfl, rfl, rfl, rfl, rfl, rfl, rfl, rfl, rfl, rfl, rfl, rfl, rfl, rfl, rfl, trivial⟩
theorem mainRow8_encodes : slotsEncode 0x80 mainRow8 :=
  ⟨rfl, rfl, rfl, rfl, rfl, rfl, rfl, rfl, rfl, rfl, rfl, rfl, rfl, rfl, rfl, rfl, trivial⟩
theorem mainRow9_encodes : slotsEncode 0x90 mainRow9 :=
  ⟨rfl, rfl, rfl, rfl, rfl, rfl, rfl, rfl, rfl, rfl, rfl, rfl, rfl, rfl, rfl, rfl, trivial⟩
theorem mainRowA_encodes : slotsEncode 0xA0 mainRowA :=
  ⟨rfl, rfl, rfl, rfl, rfl, rfl, rfl, rfl, rfl, rfl, rfl, rfl, rfl, rfl, rfl, rfl, trivial⟩
theorem mainRowB_encodes : slotsEncode 0xB0 mainRowB :=
  ⟨rfl, rfl, rfl, rfl, rfl, rfl, rfl, rfl, rfl, rfl, rfl, rfl, rfl, rfl, rfl, rfl, trivial⟩
theorem mainRowC_encodes : slotsEncode 0xC0 mainRowC :=
  ⟨rfl, rfl, fun _ => rfl, fun _ => rfl, fun _ => rfl, rfl, fun _ => rfl, rfl, rfl, rfl, fun _ => rfl, rfl, fun _ => rfl, fun _ => rfl, fun _ => rfl, rfl, trivial⟩
theorem mainRowD_encodes : slotsEncode 0xD0 mainRowD :=
  ⟨rfl, rfl, fun _ => rfl, rfl, fun _ => rfl, rfl, fun _ => rfl, rfl, rfl, rfl, fun _ => rfl, rfl, fun _ => rfl, rfl, fun _ => rfl, rfl, trivial⟩
theorem mainRowE_encodes : slotsEncode 0xE0 mainRowE :=
  ⟨fun _ => rfl, rfl, rfl, rfl, rfl, rfl, fun _ => rfl, rfl, fun _ => rfl, rfl, fun _ => rfl, rfl, rfl, rfl, fun _ => rfl, rfl, trivial⟩
theorem mainRowF_encodes : slotsEncode 0xF0 mainRowF :=
  ⟨fun _ => rfl, rfl, rfl, rfl, rfl, rfl, fun _ => rfl, rfl, fun _ => rfl, rfl, fun _ => rfl, rfl, rfl, rfl, fun _ => rfl, rfl, trivial⟩

/-- The main page against the encoder (R120, R122, R132). -/
theorem slotOf_encodes (b : Byte) : (slotOf b).encodesAt b := by
  have h : slotsEncode 0 mainPage := by
      unfold mainPage
      repeat' refine slotsEncode_append ?_ ?_
      all_goals try simp only [List.length_append]
      exacts [mainRow0_encodes, mainRow1_encodes, mainRow2_encodes, mainRow3_encodes, mainRow4_encodes, mainRow5_encodes, mainRow6_encodes, mainRow7_encodes, mainRow8_encodes, mainRow9_encodes, mainRowA_encodes, mainRowB_encodes, mainRowC_encodes, mainRowD_encodes, mainRowE_encodes, mainRowF_encodes]
  have := slotsEncode_get h b.toNat (by rw [mainPage_length]; exact b.isLt)
  rwa [Nat.zero_add, BitVec.ofNat_toNat, BitVec.setWidth_eq] at this

/-- Consecutive rows of the second page. -/
def cbRowsEncode : Nat → List Instr → Prop
  | _, [] => True
  | k, i :: xs => (encode i = [0xCB, BitVec.ofNat 8 k] ∧ i.wellFormed = true) ∧ cbRowsEncode (k + 1) xs

theorem cbRowsEncode_append {k : Nat} {xs ys : List Instr} (hx : cbRowsEncode k xs) (hy : cbRowsEncode (k + xs.length) ys) :
    cbRowsEncode k (xs ++ ys) := by
  induction xs generalizing k with
  | nil => exact hy
  | cons x xs ih =>
    refine ⟨hx.1, ih hx.2 ?_⟩
    rwa [List.length_cons, Nat.add_comm xs.length, ← Nat.add_assoc] at hy

theorem cbRowsEncode_get {k : Nat} {xs : List Instr} (h : cbRowsEncode k xs) (n : Nat) (hn : n < xs.length) :
    encode xs[n] = [0xCB, BitVec.ofNat 8 (k + n)] ∧ xs[n].wellFormed = true := by
  induction xs generalizing k n with
  | nil => exact absurd hn (Nat.not_lt_zero n)
  | cons x xs ih =>
    cases n with
    | zero => exact h.1
    | succ n =>
      have := ih h.2 n (Nat.lt_of_succ_lt_succ hn)
      rwa [Nat.add_assoc, Nat.add_comm 1 n] at this

theorem cbRow0_encodes : cbRowsEncode 0x00 cbRow0 :=
  ⟨⟨rfl, rfl⟩, ⟨rfl, rfl⟩, ⟨rfl, rfl⟩, ⟨rfl, rfl⟩, ⟨rfl, rfl⟩, ⟨rfl, rfl⟩, ⟨rfl, rfl⟩, ⟨rfl, rfl⟩, ⟨rfl, rfl⟩, ⟨rfl, rfl⟩, ⟨rfl, rfl⟩, ⟨rfl, rfl⟩, ⟨rfl, rfl⟩, ⟨rfl, rfl⟩, ⟨rfl, rfl⟩, ⟨rfl, rfl⟩, trivial⟩
theorem cbRow1_encodes : cbRowsEncode 0x10 cbRow1 :=
  ⟨⟨rfl, rfl⟩, ⟨rfl, rfl⟩, ⟨rfl, rfl⟩, ⟨rfl, rfl⟩, ⟨rfl, rfl⟩, ⟨rfl, rfl⟩, ⟨rfl, rfl⟩, ⟨rfl, rfl⟩, ⟨rfl, rfl⟩, ⟨rfl, rfl⟩, ⟨rfl, rfl⟩, ⟨rfl, rfl⟩, ⟨rfl, rfl⟩, ⟨rfl, rfl⟩, ⟨rfl, rfl⟩, ⟨rfl, rfl⟩, trivial⟩
theorem cbRow2_encodes : cbRowsEncode 0x20 cbRow2 :=
  ⟨⟨rfl, rfl⟩, ⟨rfl, rfl⟩, ⟨rfl, rfl⟩, ⟨rfl, rfl⟩, ⟨rfl, rfl⟩, ⟨rfl, rfl⟩, ⟨rfl, rfl⟩, ⟨rfl, rfl⟩, ⟨rfl, rfl⟩, ⟨rfl, rfl⟩, ⟨rfl, rfl⟩, ⟨rfl, rfl⟩, ⟨rfl, rfl⟩, ⟨rfl, rfl⟩, ⟨rfl, rfl⟩, ⟨rfl, rfl⟩, trivial⟩
theorem cbRow3_encodes : cbRowsEncode 0x30 cbRow3 :=
  ⟨⟨rfl, rfl⟩, ⟨rfl, rfl⟩, ⟨rfl, rfl⟩, ⟨rfl, rfl⟩, ⟨rfl, rfl⟩, ⟨rfl, rfl⟩, ⟨rfl, rfl⟩, ⟨rfl, rfl⟩, ⟨rfl, rfl⟩, ⟨rfl, rfl⟩, ⟨rfl, rfl⟩, ⟨rfl, rfl⟩, ⟨rfl, rfl⟩, ⟨rfl, rfl⟩, ⟨rfl, rfl⟩, ⟨rfl, rfl⟩, trivial⟩
theorem cbRow4_encodes : cbRowsEncode 0x40 cbRow4 :=
  ⟨⟨rfl, rfl⟩, ⟨rfl, rfl⟩, ⟨rfl, rfl⟩, ⟨rfl, rfl⟩, ⟨rfl, rfl⟩, ⟨rfl, rfl⟩, ⟨rfl, rfl⟩, ⟨rfl, rfl⟩, ⟨rfl, rfl⟩, ⟨rfl, rfl⟩, ⟨rfl, rfl⟩, ⟨rfl, rfl⟩, ⟨rfl, rfl⟩, ⟨rfl, rfl⟩, ⟨rfl, rfl⟩, ⟨rfl, rfl⟩, trivial⟩
theorem cbRow5_encodes : cbRowsEncode 0x50 cbRow5 :=
  ⟨⟨rfl, rfl⟩, ⟨rfl, rfl⟩, ⟨rfl, rfl⟩, ⟨rfl, rfl⟩, ⟨rfl, rfl⟩, ⟨rfl, rfl⟩, ⟨rfl, rfl⟩, ⟨rfl, rfl⟩, ⟨rfl, rfl⟩, ⟨rfl, rfl⟩, ⟨rfl, rfl⟩, ⟨rfl, rfl⟩, ⟨rfl, rfl⟩, ⟨rfl, rfl⟩, ⟨rfl, rfl⟩, ⟨rfl, rfl⟩, trivial⟩
theorem cbRow6_encodes : cbRowsEncode 0x60 cbRow6 :=
  ⟨⟨rfl, rfl⟩, ⟨rfl, rfl⟩, ⟨rfl, rfl⟩, ⟨rfl, rfl⟩, ⟨rfl, rfl⟩, ⟨rfl, rfl⟩, ⟨rfl, rfl⟩, ⟨rfl, rfl⟩, ⟨rfl, rfl⟩, ⟨rfl, rfl⟩, ⟨rfl, rfl⟩, ⟨rfl, rfl⟩, ⟨rfl, rfl⟩, ⟨rfl, rfl⟩, ⟨rfl, rfl⟩, ⟨rfl, rfl⟩, trivial⟩
theorem cbRow7_encodes : cbRowsEncode 0x70 cbRow7 :=
  ⟨⟨rfl, rfl⟩, ⟨rfl, rfl⟩, ⟨rfl, rfl⟩, ⟨rfl, rfl⟩, ⟨rfl, rfl⟩, ⟨rfl, rfl⟩, ⟨rfl, rfl⟩, ⟨rfl, rfl⟩, ⟨rfl, rfl⟩, ⟨rfl, rfl⟩, ⟨rfl, rfl⟩, ⟨rfl, rfl⟩, ⟨rfl, rfl⟩, ⟨rfl, rfl⟩, ⟨rfl, rfl⟩, ⟨rfl, rfl⟩, trivial⟩
theorem cbRow8_encodes : cbRowsEncode 0x80 cbRow8 :=
  ⟨⟨rfl, rfl⟩, ⟨rfl, rfl⟩, ⟨rfl, rfl⟩, ⟨rfl, rfl⟩, ⟨rfl, rfl⟩, ⟨rfl, rfl⟩, ⟨rfl, rfl⟩, ⟨rfl, rfl⟩, ⟨rfl, rfl⟩, ⟨rfl, rfl⟩, ⟨rfl, rfl⟩, ⟨rfl, rfl⟩, ⟨rfl, rfl⟩, ⟨rfl, rfl⟩, ⟨rfl, rfl⟩, ⟨rfl, rfl⟩, trivial⟩
theorem cbRow9_encodes : cbRowsEncode 0x90 cbRow9 :=
  ⟨⟨rfl, rfl⟩, ⟨rfl, rfl⟩, ⟨rfl, rfl⟩, ⟨rfl, rfl⟩, ⟨rfl, rfl⟩, ⟨rfl, rfl⟩, ⟨rfl, rfl⟩, ⟨rfl, rfl⟩, ⟨rfl, rfl⟩, ⟨rfl, rfl⟩, ⟨rfl, rfl⟩, ⟨rfl, rfl⟩, ⟨rfl, rfl⟩, ⟨rfl, rfl⟩, ⟨rfl, rfl⟩, ⟨rfl, rfl⟩, trivial⟩
theorem cbRowA_encodes : cbRowsEncode 0xA0 cbRowA :=
  ⟨⟨rfl, rfl⟩, ⟨rfl, rfl⟩, ⟨rfl, rfl⟩, ⟨rfl, rfl⟩, ⟨rfl, rfl⟩, ⟨rfl, rfl⟩, ⟨rfl, rfl⟩, ⟨rfl, rfl⟩, ⟨rfl, rfl⟩, ⟨rfl, rfl⟩, ⟨rfl, rfl⟩, ⟨rfl, rfl⟩, ⟨rfl, rfl⟩, ⟨rfl, rfl⟩, ⟨rfl, rfl⟩, ⟨rfl, rfl⟩, trivial⟩
theorem cbRowB_encodes : cbRowsEncode 0xB0 cbRowB :=
  ⟨⟨rfl, rfl⟩, ⟨rfl, rfl⟩, ⟨rfl, rfl⟩, ⟨rfl, rfl⟩, ⟨rfl, rfl⟩, ⟨rfl, rfl⟩, ⟨rfl, rfl⟩, ⟨rfl, rfl⟩, ⟨rfl, rfl⟩, ⟨rfl, rfl⟩, ⟨rfl, rfl⟩, ⟨rfl, rfl⟩, ⟨rfl, rfl⟩, ⟨rfl, rfl⟩, ⟨rfl, rfl⟩, ⟨rfl, rfl⟩, trivial⟩
theorem cbRowC_encodes : cbRowsEncode 0xC0 cbRowC :=
  ⟨⟨rfl, rfl⟩, ⟨rfl, rfl⟩, ⟨rfl, rfl⟩, ⟨rfl, rfl⟩, ⟨rfl, rfl⟩, ⟨rfl, rfl⟩, ⟨rfl, rfl⟩, ⟨rfl, rfl⟩, ⟨rfl, rfl⟩, ⟨rfl, rfl⟩, ⟨rfl, rfl⟩, ⟨rfl, rfl⟩, ⟨rfl, rfl⟩, ⟨rfl, rfl⟩, ⟨rfl, rfl⟩, ⟨rfl, rfl⟩, trivial⟩
theorem cbRowD_encodes : cbRowsEncode 0xD0 cbRowD :=
  ⟨⟨rfl, rfl⟩, ⟨rfl, rfl⟩, ⟨rfl, rfl⟩, ⟨rfl, rfl⟩, ⟨rfl, rfl⟩, ⟨rfl, rfl⟩, ⟨rfl, rfl⟩, ⟨rfl, rfl⟩, ⟨rfl, rfl⟩, ⟨rfl, rfl⟩, ⟨rfl, rfl⟩, ⟨rfl, rfl⟩, ⟨rfl, rfl⟩, ⟨rfl, rfl⟩, ⟨rfl, rfl⟩, ⟨rfl, rfl⟩, trivial⟩
theorem cbRowE_encodes : cbRowsEncode 0xE0 cbRowE :=
  ⟨⟨rfl, rfl⟩, ⟨rfl, rfl⟩, ⟨rfl, rfl⟩, ⟨rfl, rfl⟩, ⟨rfl, rfl⟩, ⟨rfl, rfl⟩, ⟨rfl, rfl⟩, ⟨rfl, rfl⟩, ⟨rfl, rfl⟩, ⟨rfl, rfl⟩, ⟨rfl, rfl⟩, ⟨rfl, rfl⟩, ⟨rfl, rfl⟩, ⟨rfl, rfl⟩, ⟨rfl, rfl⟩, ⟨rfl, rfl⟩, trivial⟩
theorem cbRowF_encodes : cbRowsEncode 0xF0 cbRowF :=
  ⟨⟨rfl, rfl⟩, ⟨rfl, rfl⟩, ⟨rfl, rfl⟩, ⟨rfl, rfl⟩, ⟨rfl, rfl⟩, ⟨rfl, rfl⟩, ⟨rfl, rfl⟩, ⟨rfl, rfl⟩, ⟨rfl, rfl⟩, ⟨rfl, rfl⟩, ⟨rfl, rfl⟩, ⟨rfl, rfl⟩, ⟨rfl, rfl⟩, ⟨rfl, rfl⟩, ⟨rfl, rfl⟩, ⟨rfl, rfl⟩, trivial⟩

/-- The second page against the encoder (R133). -/
theorem cbInstr_encodes (b : Byte) : encode (cbInstr b) = [0xCB, b] ∧ (cbInstr b).wellFormed = true := by
  have h : cbRowsEncode 0 cbPage := by
      unfold cbPage
      repeat' refine cbRowsEncode_append ?_ ?_
      all_goals try simp only [List.length_append]
      exacts [cbRow0_encodes, cbRow1_encodes, cbRow2_encodes, cbRow3_encodes, cbRow4_encodes, cbRow5_encodes, cbRow6_encodes, cbRow7_encodes, cbRow8_encodes, cbRow9_encodes, cbRowA_encodes, cbRowB_encodes, cbRowC_encodes, cbRowD_encodes, cbRowE_encodes, cbRowF_encodes]
  have := cbRowsEncode_get h b.toNat (by rw [cbPage_length]; exact b.isLt)
  rwa [Nat.zero_add, BitVec.ofNat_toNat, BitVec.setWidth_eq] at this

end Sys2Proof
end

