-- ==== Sys2Proof/Laws/Launch.lean ====
section
/-! SUPPORT. What the loader, reset and the launch states leave: the images, the storage for any `RAM_INIT`, and the invariant. -/

namespace Sys2Proof.Machine

/-! ## Images -/

theorem imageFrom_bounds (n : Nat) (bytes : List Byte) : ∀ x ∈ imageFrom n bytes, n ≤ x.1 ∧ x.1 < n + bytes.length := by
  induction bytes generalizing n with
  | nil => simp [imageFrom]
  | cons v bytes ih =>
    intro x hx
    rw [List.length_cons]
    cases hx with
    | head => dsimp only; omega
    | tail _ hx => have := ih _ x hx; omega

theorem imageFrom_wf (n : Nat) (bytes : List Byte) : Image.wf (imageFrom n bytes) := by
  induction bytes generalizing n with
  | nil => exact .nil
  | cons v bytes ih => exact .cons (fun x hx => (imageFrom_bounds _ _ x hx).1) (ih _)

/-- The image lists exactly the bytes it was made from. -/
theorem find?_imageFrom (n k : Nat) (bytes : List Byte) : Image.find? (imageFrom n bytes) (n + k) = bytes[k]? := by
  induction bytes generalizing n k with
  | nil => rfl
  | cons v bytes ih =>
    simp only [imageFrom, Image.find?]
    cases k with
    | zero => simp
    | succ k =>
      rw [if_neg (by omega), show n + (k + 1) = n + 1 + k by omega, ih, List.getElem?_cons_succ]

/-! ## The cartridge (R100, R102) -/

/-- What the loader's verdict says: an image is accepted exactly when its length and its three checked bytes are. -/
theorem loadError?_eq_none (bytes : List Byte) :
    loadError? bytes = none ↔
      (bytes.length = 32768 ∨ bytes.length = 65536) ∧ bytes.getD 0x0147 0 = 0x00 ∧
        (bytes.getD 0x0148 0 = 0x00 ∨ bytes.getD 0x0148 0 = 0x01) ∧ bytes.getD 0x0149 0 = 0x00 := by
  unfold loadError? headerOf
  dsimp only
  split
  · next h => exact iff_of_false (by simp) fun h' => by omega
  · next h1 =>
    have hl : bytes.length = 32768 ∨ bytes.length = 65536 := by omega
    split
    · next h => exact iff_of_false (by simp) fun h' => h h'.2.1
    · next h2 =>
      split
      · next h => exact iff_of_false (by simp) fun h' => h'.2.2.1.elim h.1 h.2
      · next h3 =>
        split
        · next h => exact iff_of_false (by simp) fun h' => h h'.2.2.2
        · next h4 => exact iff_of_true rfl ⟨hl, not_not.mp h2, by tauto, not_not.mp h4⟩

/-- The loader gives a cartridge exactly for the images it accepts, and it is that image. -/
theorem loadCartridge_eq_ok (bytes : List Byte) (cart : Cartridge) : loadCartridge bytes = .ok cart ↔ cart.bytes = bytes := by
  unfold loadCartridge
  split
  · next h =>
    constructor
    · intro e; cases e; rfl
    · intro e; cases cart; subst e; rfl
  · next e h => exact iff_of_false (by simp) fun he => by rw [← he, cart.accepted] at h; cases h

/-- The bytes on the bus are the image's, for every offset of the window. -/
theorem Cartridge.byte_image (cart : Cartridge) {s : State} (hs : s.cart = cart.image) {k : Nat} (hk : k < 0x8000) :
    s.cartByte k = cart.bytes.getD k 0 := by
  have hl := ((loadError?_eq_none _).mp cart.accepted).1
  have hf := find?_imageFrom 0 k cart.bytes
  rw [Nat.zero_add] at hf
  rw [State.cartByte, hs, Cartridge.image, hf, List.getD_eq_getElem?_getD, List.getElem?_eq_getElem (by omega)]
  rfl

/-- The image of a cartridge has a header the loader accepts. -/
theorem Cartridge.header_image (cart : Cartridge) {s : State} (hs : s.cart = cart.image) :
    s.cartByte 0x0147 = 0x00 ∧ (s.cartByte 0x0148 = 0x00 ∨ s.cartByte 0x0148 = 0x01) ∧ s.cartByte 0x0149 = 0x00 := by
  rw [cart.byte_image hs (by decide), cart.byte_image hs (by decide), cart.byte_image hs (by decide)]
  exact ((loadError?_eq_none _).mp cart.accepted).2

theorem Cartridge.image_wf (cart : Cartridge) : Image.wf cart.image := imageFrom_wf _ _

theorem Cartridge.image_size (cart : Cartridge) : ∀ x ∈ cart.image, x.1 < 65536 := fun x hx => by
  have := imageFrom_bounds _ _ x hx
  have := ((loadError?_eq_none _).mp cart.accepted).1
  omega

/-- The open cartridge of a state that lists no byte of it is one the loader accepts (log 4). -/
theorem openCart_header {s : State} (hs : s.cart = []) :
    s.cartByte 0x0147 = 0x00 ∧ (s.cartByte 0x0148 = 0x00 ∨ s.cartByte 0x0148 = 0x01) ∧ s.cartByte 0x0149 = 0x00 := by
  have low : ∀ v : Byte, v &&& 0x01 = 0x00 ∨ v &&& 0x01 = 0x01 := fun v => by
    rcases Bool.eq_false_or_eq_true (v.getLsbD 0) with h | h
    · right; ext i hi; rcases i with _ | i
      · simpa using h
      · simp
    · left; ext i hi; rcases i with _ | i
      · simpa using h
      · simp
  unfold State.cartByte
  rw [hs]
  exact ⟨rfl, low _, rfl⟩

/-! ## RAM after reset (R60) -/

theorem ramFrom_wf (ramInit : List Host.Cell) : Memory.wf (ramFrom ramInit) :=
  Memory.storeAll_wf ⟨.nil, by simp⟩ _

theorem ramFrom_addr (ramInit : List Host.Cell) : ∀ x ∈ ramFrom ramInit, ramInitAddr x.1 = true :=
  Memory.storeAll_mem (P := fun k => ramInitAddr k = true) (by simp) fun _ hx => (List.mem_filter.mp hx).2

/-- Outside RAM a reset machine's storage is zero. -/
theorem load_ramFrom_of_not {ramInit : List Host.Cell} {k : Nat} (hk : ramInitAddr k = false) :
    Memory.load (ramFrom ramInit) k = 0 := by
  have absent : ∀ m : Memory, (∀ x ∈ m, ramInitAddr x.1 = true) → Memory.load m k = 0 := by
    intro m h
    induction m with
    | nil => rfl
    | cons x m ih =>
      rw [Memory.load_cons, if_neg, ih fun y hy => h y (List.mem_cons_of_mem _ hy)]
      intro e; rw [e, h x List.mem_cons_self] at hk; cases hk
  exact absent _ (ramFrom_addr ramInit)

theorem ramFrom_ly (ramInit : List Host.Cell) : Memory.load (ramFrom ramInit) lyAddr = 0 := load_ramFrom_of_not (by decide)

theorem ramFrom_boot (ramInit : List Host.Cell) : Memory.load (ramFrom ramInit) bootAddr = 0 := load_ramFrom_of_not (by decide)

/-- The parameter `RAM_INIT` gives RAM any contents whatever. -/
theorem exists_ramInit (contents : Nat → Byte) :
    ∃ ramInit, ∀ k, ramInitAddr k = true → Memory.load (ramFrom ramInit) k = contents k := by
  obtain ⟨n, hn⟩ : ∃ n, n = 0x10000 := ⟨_, rfl⟩
  refine ⟨(List.range n).map fun j => (j, contents j), fun k hk => ?_⟩
  have hlt : k < n := by
    simp only [ramInitAddr, Bool.or_eq_true, Bool.and_eq_true, decide_eq_true_eq] at hk; omega
  have find : ∀ l : List Host.Cell, (k, contents k) ∈ l → (∀ x ∈ l, x.2 = contents x.1) → Image.find? l k = some (contents k) := by
    intro l hm hl
    induction l with
    | nil => cases hm
    | cons x l ih =>
      simp only [Image.find?]
      split
      · next e => rw [hl x List.mem_cons_self, ← e]
      · next e =>
        refine ih ?_ fun y hy => hl y (List.mem_cons_of_mem _ hy)
        exact (List.mem_cons.mp hm).resolve_left fun h => e (congrArg Prod.fst h)
  rw [ramFrom, Memory.load_storeAll ⟨.nil, by simp⟩, find]
  · rfl
  · rw [List.mem_reverse, List.mem_filter]
    exact ⟨List.mem_map.mpr ⟨k, List.mem_range.mpr hlt, rfl⟩, hk⟩
  · intro x hx
    obtain ⟨j, -, rfl⟩ := List.mem_map.mp (List.mem_filter.mp (List.mem_reverse.mp hx)).1
    rfl

/-! ## The launch states (R474) -/

@[simp] theorem State.resetWith_ram (ramInit : List Host.Cell) : (State.resetWith ramInit).ram = ramFrom ramInit := by
  simp only [State.resetWith]

@[simp] theorem State.cold_ram (ramInit : List Host.Cell) (bootRom : BootRom) (cart : Cartridge) :
    (State.cold ramInit bootRom cart).ram = ramFrom ramInit := by simp only [State.cold, State.resetWith_ram]

@[simp] theorem State.cold_bootRom (ramInit : List Host.Cell) (bootRom : BootRom) (cart : Cartridge) :
    (State.cold ramInit bootRom cart).bootRom = imageFrom 0 bootRom.toList := by simp only [State.cold]

@[simp] theorem State.cold_cart (ramInit : List Host.Cell) (bootRom : BootRom) (cart : Cartridge) :
    (State.cold ramInit bootRom cart).cart = cart.image := by simp only [State.cold]

@[simp] theorem State.postBoot_ram (left : BootLeavings) (cart : Cartridge) :
    (State.postBoot left cart).ram = postBootRam left := by simp only [State.postBoot]

@[simp] theorem State.postBoot_cart (left : BootLeavings) (cart : Cartridge) :
    (State.postBoot left cart).cart = cart.image := by simp only [State.postBoot]

@[simp] theorem State.postBoot_bootUnmap (left : BootLeavings) (cart : Cartridge) :
    (State.postBoot left cart).bootUnmap = true := by simp only [State.postBoot]

@[simp] theorem State.postBoot_lcdAcc (left : BootLeavings) (cart : Cartridge) :
    (State.postBoot left cart).lcdAcc = left.lcdAcc := by simp only [State.postBoot]

theorem postBootRam_wf (left : BootLeavings) : Memory.wf (postBootRam left) :=
  Memory.storeAll_wf (Memory.storeAll_wf ⟨.nil, by simp⟩ _) _

theorem postBootRam_addr (left : BootLeavings) : ∀ x ∈ postBootRam left, storageAddr x.1 = true := by
  refine Memory.storeAll_mem (P := fun k => storageAddr k = true)
    (Memory.storeAll_mem (P := fun k => storageAddr k = true) (by simp) fun _ hx => (List.mem_filter.mp hx).2) fun x hx => ?_
  rcases List.mem_cons.mp hx with rfl | hx
  · exact (by decide : storageAddr lyAddr = true)
  · exact (by decide : ∀ x ∈ (bootAddr, (0x01 : Byte)) :: postBootBytes.map (fun x => (x.1.toNat, x.2)), storageAddr x.1 = true) x hx

theorem load_postBootRam (left : BootLeavings) (k : Nat) :
    Memory.load (postBootRam left) k =
      (Image.find? ((lyAddr, BitVec.ofNat 8 left.ly) :: (bootAddr, 0x01) :: postBootBytes.map fun x => (x.1.toNat, x.2)).reverse
        k).getD (Memory.load (Memory.storeAll [] (left.cells.filter fun x => storageAddr x.1)) k) :=
  Memory.load_storeAll (Memory.storeAll_wf ⟨.nil, by simp⟩ _) _ k

end Sys2Proof.Machine
end

