-- ==== Sys2Proof/Laws/Lcd.lean ====
section
/-! SUPPORT. What the LCD controller's steps change, line by line and in closed form (R440 to R442). -/

namespace Sys2Proof.Machine

/-- A line changes LY, bit 0 of IF and `frame_ready`, nothing else. -/
theorem lcdLine_eq (s : State) : lcdLine s = { s with ram := (lcdLine s).ram, frameReady := (lcdLine s).frameReady } := by
  unfold lcdLine State.poke; dsimp only; split <;> split <;> rfl

theorem lcdLine_ram (s : State) :
    (lcdLine s).ram =
      if nextLine s.ly = 144 then Memory.store (Memory.store s.ram lyAddr (nextLine s.ly)) ifAddr
        ((s.poke lyAddr (nextLine s.ly)).ifReg ||| 0x01)
      else Memory.store s.ram lyAddr (nextLine s.ly) := by
  unfold lcdLine State.poke; dsimp only; split <;> split <;> rfl

theorem lcdLine_frameReady (s : State) : (lcdLine s).frameReady = (s.frameReady || decide (nextLine s.ly = 0)) := by
  unfold lcdLine State.poke; dsimp only; split <;> split <;> simp_all

theorem lcdLine_wf {s : State} (hm : Memory.wf s.ram) : Memory.wf (lcdLine s).ram := by
  rw [lcdLine_ram]; split
  · exact Memory.store_wf (Memory.store_wf hm _ _) _ _
  · exact Memory.store_wf hm _ _

/-- The storage after a line, byte by byte. -/
theorem lcdLine_load {s : State} (hm : Memory.wf s.ram) (k : Nat) :
    Memory.load (lcdLine s).ram k =
      if k = lyAddr then nextLine s.ly
      else if k = ifAddr then (if nextLine s.ly = 144 then s.ifReg ||| 0x01 else s.ifReg)
      else Memory.load s.ram k := by
  have hne : ¬ifAddr = lyAddr := by decide
  have hif : (s.poke lyAddr (nextLine s.ly)).ifReg = s.ifReg := by
    rw [State.ifReg, State.poke_ram, Memory.load_store hm.1, if_neg hne]; rfl
  rw [lcdLine_ram, hif]
  by_cases h1 : k = lyAddr
  · subst h1
    rw [if_pos rfl]; split
    · rw [Memory.load_store (Memory.store_wf hm _ _).1, if_neg (Ne.symm hne), Memory.load_store hm.1, if_pos rfl]
    · rw [Memory.load_store hm.1, if_pos rfl]
  · rw [if_neg h1]
    by_cases h2 : k = ifAddr
    · subst h2
      rw [if_pos rfl]; split
      · rw [Memory.load_store (Memory.store_wf hm _ _).1, if_pos rfl]
      · rw [Memory.load_store hm.1, if_neg h1]; rfl
    · rw [if_neg h2]; split
      · rw [Memory.load_store (Memory.store_wf hm _ _).1, if_neg h2, Memory.load_store hm.1, if_neg h1]
      · rw [Memory.load_store hm.1, if_neg h1]

theorem lcdLine_ly {s : State} (hm : Memory.wf s.ram) : (lcdLine s).ly = nextLine s.ly := by
  rw [State.ly, lcdLine_load hm, if_pos rfl]

theorem lcdLine_ifReg {s : State} (hm : Memory.wf s.ram) :
    (lcdLine s).ifReg = if nextLine s.ly = 144 then s.ifReg ||| 0x01 else s.ifReg := by
  rw [State.ifReg, lcdLine_load hm, if_neg (by decide), if_pos rfl]

/-- LY counts mod 154 (R440). -/
theorem nextLine_toNat {ly : Byte} (h : ly.toNat ≤ 153) : (nextLine ly).toNat = (ly.toNat + 1) % 154 := by
  unfold nextLine
  split
  · have : ly.toNat = 153 := by omega
    rw [this]; rfl
  · rw [BitVec.toNat_add]
    show (ly.toNat + 1) % 256 = _
    omega

/-- Whatever a line keeps, any number of lines keeps. -/
theorem lcdLines_induct {P : State → Prop} (h : ∀ s, P s → P (lcdLine s)) (n : Nat) (s : State) (hs : P s) : P (lcdLines n s) := by
  induction n generalizing s with
  | zero => exact hs
  | succ n ih => exact ih _ (h s hs)

theorem lcdLines_eq (n : Nat) (s : State) :
    lcdLines n s = { s with ram := (lcdLines n s).ram, frameReady := (lcdLines n s).frameReady } := by
  induction n generalizing s with
  | zero => rfl
  | succ n ih => rw [lcdLines, ih, lcdLine_eq]

theorem lcdLines_wf (n : Nat) {s : State} (hm : Memory.wf s.ram) : Memory.wf (lcdLines n s).ram :=
  lcdLines_induct (P := fun s => Memory.wf s.ram) (fun _ h => lcdLine_wf h) n s hm

/-- The storage elsewhere is kept. -/
theorem lcdLines_load (n : Nat) {s : State} (hm : Memory.wf s.ram) {k : Nat} (h1 : k ≠ lyAddr) (h2 : k ≠ ifAddr) :
    Memory.load (lcdLines n s).ram k = Memory.load s.ram k := by
  induction n generalizing s with
  | zero => rfl
  | succ n ih => rw [lcdLines, ih (lcdLine_wf hm), lcdLine_load hm, if_neg h1, if_neg h2]

/-- LY after any number of lines (R440). -/
theorem lcdLines_ly (n : Nat) {s : State} (hm : Memory.wf s.ram) (h : s.ly.toNat ≤ 153) :
    (lcdLines n s).ly.toNat = (s.ly.toNat + n) % 154 := by
  induction n generalizing s with
  | zero => show s.ly.toNat = _; omega
  | succ n ih =>
    have e : (lcdLine s).ly.toNat = (s.ly.toNat + 1) % 154 := by rw [lcdLine_ly hm, nextLine_toNat h]
    rw [lcdLines, ih (lcdLine_wf hm) (by omega), e]
    omega

/-- The other bits of IF are kept (R441). -/
theorem lcdLines_ifReg (n : Nat) {s : State} (hm : Memory.wf s.ram) {k : Nat} (hk : 0 < k) :
    (lcdLines n s).ifReg.getLsbD k = s.ifReg.getLsbD k := by
  induction n generalizing s with
  | zero => rfl
  | succ n ih =>
    rw [lcdLines, ih (lcdLine_wf hm), lcdLine_ifReg hm]
    split
    · have : (0x01 : Byte).getLsbD k = false := by
        rw [BitVec.getLsbD, show (0x01 : Byte).toNat = 2 ^ 0 from rfl, Nat.testBit_two_pow]
        exact decide_eq_false (by omega)
      rw [BitVec.getLsbD_or, this, Bool.or_false]
    · rfl

/-- Bit 0 of IF after any number of lines: set as it was, or line 144 was entered (R441). -/
theorem lcdLines_vblank (n : Nat) {s : State} (hm : Memory.wf s.ram) (h : s.ly.toNat ≤ 153) :
    (lcdLines n s).ifReg.getLsbD 0 = true ↔
      s.ifReg.getLsbD 0 = true ∨ ∃ j, 1 ≤ j ∧ j ≤ n ∧ (s.ly.toNat + j) % 154 = 144 := by
  induction n generalizing s with
  | zero =>
    show s.ifReg.getLsbD 0 = true ↔ _
    exact ⟨.inl, fun h => h.elim id fun ⟨j, h1, h2, _⟩ => by omega⟩
  | succ n ih =>
    have e : (lcdLine s).ly.toNat = (s.ly.toNat + 1) % 154 := by rw [lcdLine_ly hm, nextLine_toNat h]
    have hif : (lcdLine s).ifReg.getLsbD 0 = true ↔ s.ifReg.getLsbD 0 = true ∨ (s.ly.toNat + 1) % 154 = 144 := by
      rw [lcdLine_ifReg hm, ← nextLine_toNat h]
      have he : nextLine s.ly = 144 ↔ (nextLine s.ly).toNat = 144 := by
        rw [← BitVec.toNat_inj]; rfl
      rw [← he]
      split
      · next h' => simp [h']
      · next h' => exact ⟨.inl, fun h2 => h2.elim id fun h3 => absurd h3 h'⟩
    rw [lcdLines, ih (lcdLine_wf hm) (by omega), e, hif]
    constructor
    · rintro ((h1 | h1) | ⟨j, h1, h2, h3⟩)
      · exact .inl h1
      · exact .inr ⟨1, by omega, by omega, h1⟩
      · exact .inr ⟨j + 1, by omega, by omega, by omega⟩
    · rintro (h1 | ⟨j, h1, h2, h3⟩)
      · exact .inl (.inl h1)
      · by_cases hj : j = 1
        · subst hj; exact .inl (.inr h3)
        · exact .inr ⟨j - 1, by omega, by omega, by omega⟩

/-- `frame_ready` after any number of lines: set as it was, or the wrap to line 0 was passed (R442). -/
theorem lcdLines_frameReady (n : Nat) {s : State} (hm : Memory.wf s.ram) (h : s.ly.toNat ≤ 153) :
    (lcdLines n s).frameReady = true ↔ s.frameReady = true ∨ s.ly.toNat + n ≥ 154 := by
  induction n generalizing s with
  | zero =>
    show s.frameReady = true ↔ _
    exact ⟨.inl, fun h' => h'.elim id fun h' => by omega⟩
  | succ n ih =>
    have e : (lcdLine s).ly.toNat = (s.ly.toNat + 1) % 154 := by rw [lcdLine_ly hm, nextLine_toNat h]
    have he : nextLine s.ly = 0 ↔ (nextLine s.ly).toNat = 0 := by rw [← BitVec.toNat_inj]; rfl
    have hf : (lcdLine s).frameReady = true ↔ s.frameReady = true ∨ s.ly.toNat = 153 := by
      rw [lcdLine_frameReady, Bool.or_eq_true, decide_eq_true_iff, he, nextLine_toNat h]
      constructor
      · exact fun h' => h'.imp_right fun h'' => by omega
      · exact fun h' => h'.imp_right fun h'' => by omega
    rw [lcdLines, ih (lcdLine_wf hm) (by omega), e, hf]
    constructor
    · rintro ((h1 | h1) | h1)
      · exact .inl h1
      · exact .inr (by omega)
      · exact .inr (by omega)
    · rintro (h1 | h1)
      · exact .inl (.inl h1)
      · by_cases h2 : s.ly.toNat = 153
        · exact .inl (.inr h2)
        · exact .inr (by omega)

/-- `LcdStep` changes the storage, `lcd_acc` and `frame_ready` only (R106). -/
theorem lcdStep_eq (n : Nat) (s : State) :
    lcdStep n s = { s with ram := (lcdStep n s).ram, lcdAcc := (s.lcdAcc + n) % 456, frameReady := (lcdStep n s).frameReady } := by
  unfold lcdStep; dsimp only; rw [lcdLines_eq]; rfl

end Sys2Proof.Machine
end

