-- ==== Sys2Proof/Laws/Prefix.lean ====
section
/-! SUPPORT. The prefix row acts as the second page's row of the byte after it (R131, R133). -/

namespace Sys2Proof.Machine

/-- The rule of the CB page agrees with the rows of the second page, from a second byte on. -/
def cbRowsRun : Nat → List Instr → Prop
  | _, [] => True
  | k, i :: xs => (∀ s, cbRule (BitVec.ofNat 8 k) s = exec i s) ∧ cbRowsRun (k + 1) xs

theorem cbRowsRun_append {k : Nat} {xs ys : List Instr} (hx : cbRowsRun k xs) (hy : cbRowsRun (k + xs.length) ys) :
    cbRowsRun k (xs ++ ys) := by
  induction xs generalizing k with
  | nil => exact hy
  | cons x xs ih =>
    refine ⟨hx.1, ih hx.2 ?_⟩
    rwa [List.length_cons, Nat.add_comm xs.length, ← Nat.add_assoc] at hy

theorem cbRowsRun_get {k : Nat} {xs : List Instr} (h : cbRowsRun k xs) (n : Nat) (hn : n < xs.length) (s : State) :
    cbRule (BitVec.ofNat 8 (k + n)) s = exec xs[n] s := by
  induction xs generalizing k n with
  | nil => exact absurd hn (Nat.not_lt_zero n)
  | cons x xs ih =>
    cases n with
    | zero => exact h.1 s
    | succ n =>
      have := ih h.2 n (Nat.lt_of_succ_lt_succ hn)
      rwa [Nat.add_assoc, Nat.add_comm 1 n] at this

theorem cbRow0_runs : cbRowsRun 0x00 cbRow0 :=
  ⟨fun _ => rfl, fun _ => rfl, fun _ => rfl, fun _ => rfl, fun _ => rfl, fun _ => rfl, fun _ => rfl, fun _ => rfl, fun _ => rfl, fun _ => rfl, fun _ => rfl, fun _ => rfl, fun _ => rfl, fun _ => rfl, fun _ => rfl, fun _ => rfl, trivial⟩
theorem cbRow1_runs : cbRowsRun 0x10 cbRow1 :=
  ⟨fun _ => rfl, fun _ => rfl, fun _ => rfl, fun _ => rfl, fun _ => rfl, fun _ => rfl, fun _ => rfl, fun _ => rfl, fun _ => rfl, fun _ => rfl, fun _ => rfl, fun _ => rfl, fun _ => rfl, fun _ => rfl, fun _ => rfl, fun _ => rfl, trivial⟩
theorem cbRow2_runs : cbRowsRun 0x20 cbRow2 :=
  ⟨fun _ => rfl, fun _ => rfl, fun _ => rfl, fun _ => rfl, fun _ => rfl, fun _ => rfl, fun _ => rfl, fun _ => rfl, fun _ => rfl, fun _ => rfl, fun _ => rfl, fun _ => rfl, fun _ => rfl, fun _ => rfl, fun _ => rfl, fun _ => rfl, trivial⟩
theorem cbRow3_runs : cbRowsRun 0x30 cbRow3 :=
  ⟨fun _ => rfl, fun _ => rfl, fun _ => rfl, fun _ => rfl, fun _ => rfl, fun _ => rfl, fun _ => rfl, fun _ => rfl, fun _ => rfl, fun _ => rfl, fun _ => rfl, fun _ => rfl, fun _ => rfl, fun _ => rfl, fun _ => rfl, fun _ => rfl, trivial⟩
theorem cbRow4_runs : cbRowsRun 0x40 cbRow4 :=
  ⟨fun _ => rfl, fun _ => rfl, fun _ => rfl, fun _ => rfl, fun _ => rfl, fun _ => rfl, fun _ => rfl, fun _ => rfl, fun _ => rfl, fun _ => rfl, fun _ => rfl, fun _ => rfl, fun _ => rfl, fun _ => rfl, fun _ => rfl, fun _ => rfl, trivial⟩
theorem cbRow5_runs : cbRowsRun 0x50 cbRow5 :=
  ⟨fun _ => rfl, fun _ => rfl, fun _ => rfl, fun _ => rfl, fun _ => rfl, fun _ => rfl, fun _ => rfl, fun _ => rfl, fun _ => rfl, fun _ => rfl, fun _ => rfl, fun _ => rfl, fun _ => rfl, fun _ => rfl, fun _ => rfl, fun _ => rfl, trivial⟩
theorem cbRow6_runs : cbRowsRun 0x60 cbRow6 :=
  ⟨fun _ => rfl, fun _ => rfl, fun _ => rfl, fun _ => rfl, fun _ => rfl, fun _ => rfl, fun _ => rfl, fun _ => rfl, fun _ => rfl, fun _ => rfl, fun _ => rfl, fun _ => rfl, fun _ => rfl, fun _ => rfl, fun _ => rfl, fun _ => rfl, trivial⟩
theorem cbRow7_runs : cbRowsRun 0x70 cbRow7 :=
  ⟨fun _ => rfl, fun _ => rfl, fun _ => rfl, fun _ => rfl, fun _ => rfl, fun _ => rfl, fun _ => rfl, fun _ => rfl, fun _ => rfl, fun _ => rfl, fun _ => rfl, fun _ => rfl, fun _ => rfl, fun _ => rfl, fun _ => rfl, fun _ => rfl, trivial⟩
theorem cbRow8_runs : cbRowsRun 0x80 cbRow8 :=
  ⟨fun _ => rfl, fun _ => rfl, fun _ => rfl, fun _ => rfl, fun _ => rfl, fun _ => rfl, fun _ => rfl, fun _ => rfl, fun _ => rfl, fun _ => rfl, fun _ => rfl, fun _ => rfl, fun _ => rfl, fun _ => rfl, fun _ => rfl, fun _ => rfl, trivial⟩
theorem cbRow9_runs : cbRowsRun 0x90 cbRow9 :=
  ⟨fun _ => rfl, fun _ => rfl, fun _ => rfl, fun _ => rfl, fun _ => rfl, fun _ => rfl, fun _ => rfl, fun _ => rfl, fun _ => rfl, fun _ => rfl, fun _ => rfl, fun _ => rfl, fun _ => rfl, fun _ => rfl, fun _ => rfl, fun _ => rfl, trivial⟩
theorem cbRowA_runs : cbRowsRun 0xA0 cbRowA :=
  ⟨fun _ => rfl, fun _ => rfl, fun _ => rfl, fun _ => rfl, fun _ => rfl, fun _ => rfl, fun _ => rfl, fun _ => rfl, fun _ => rfl, fun _ => rfl, fun _ => rfl, fun _ => rfl, fun _ => rfl, fun _ => rfl, fun _ => rfl, fun _ => rfl, trivial⟩
theorem cbRowB_runs : cbRowsRun 0xB0 cbRowB :=
  ⟨fun _ => rfl, fun _ => rfl, fun _ => rfl, fun _ => rfl, fun _ => rfl, fun _ => rfl, fun _ => rfl, fun _ => rfl, fun _ => rfl, fun _ => rfl, fun _ => rfl, fun _ => rfl, fun _ => rfl, fun _ => rfl, fun _ => rfl, fun _ => rfl, trivial⟩
theorem cbRowC_runs : cbRowsRun 0xC0 cbRowC :=
  ⟨fun _ => rfl, fun _ => rfl, fun _ => rfl, fun _ => rfl, fun _ => rfl, fun _ => rfl, fun _ => rfl, fun _ => rfl, fun _ => rfl, fun _ => rfl, fun _ => rfl, fun _ => rfl, fun _ => rfl, fun _ => rfl, fun _ => rfl, fun _ => rfl, trivial⟩
theorem cbRowD_runs : cbRowsRun 0xD0 cbRowD :=
  ⟨fun _ => rfl, fun _ => rfl, fun _ => rfl, fun _ => rfl, fun _ => rfl, fun _ => rfl, fun _ => rfl, fun _ => rfl, fun _ => rfl, fun _ => rfl, fun _ => rfl, fun _ => rfl, fun _ => rfl, fun _ => rfl, fun _ => rfl, fun _ => rfl, trivial⟩
theorem cbRowE_runs : cbRowsRun 0xE0 cbRowE :=
  ⟨fun _ => rfl, fun _ => rfl, fun _ => rfl, fun _ => rfl, fun _ => rfl, fun _ => rfl, fun _ => rfl, fun _ => rfl, fun _ => rfl, fun _ => rfl, fun _ => rfl, fun _ => rfl, fun _ => rfl, fun _ => rfl, fun _ => rfl, fun _ => rfl, trivial⟩
theorem cbRowF_runs : cbRowsRun 0xF0 cbRowF :=
  ⟨fun _ => rfl, fun _ => rfl, fun _ => rfl, fun _ => rfl, fun _ => rfl, fun _ => rfl, fun _ => rfl, fun _ => rfl, fun _ => rfl, fun _ => rfl, fun _ => rfl, fun _ => rfl, fun _ => rfl, fun _ => rfl, fun _ => rfl, fun _ => rfl, trivial⟩

/-- The rule of a second byte is the meaning of its row (R133). -/
theorem cbRule_eq (b : Byte) (s : State) : cbRule b s = exec (cbInstr b) s := by
  have h : cbRowsRun 0 cbPage := by
    unfold cbPage
    repeat' refine cbRowsRun_append ?_ ?_
    all_goals try simp only [List.length_append]
    exacts [cbRow0_runs, cbRow1_runs, cbRow2_runs, cbRow3_runs, cbRow4_runs, cbRow5_runs, cbRow6_runs, cbRow7_runs, cbRow8_runs, cbRow9_runs, cbRowA_runs, cbRowB_runs, cbRowC_runs, cbRowD_runs, cbRowE_runs, cbRowF_runs]
  have := cbRowsRun_get h b.toNat (by rw [cbPage_length]; exact b.isLt) s
  rwa [Nat.zero_add, BitVec.ofNat_toNat, BitVec.setWidth_eq] at this

/-- The second page has no prefix row. -/
theorem cbInstr_form_ne_prefix (b : Byte) : (cbInstr b).form ≠ .prefixCb := by
  intro h
  have := (cbInstr_encodes b).2
  unfold Instr.wellFormed at this
  rw [h] at this
  cases this

theorem Form.actsAs_ne_prefix (f : Form) (s : State) : f.actsAs s ≠ .prefixCb := by
  unfold Form.actsAs
  split
  · exact cbInstr_form_ne_prefix _
  · assumption

/-- What any row runs: itself, and the prefix row the second page's row once the byte after it is read (R131). -/
theorem exec_actsAs (f : Form) (s : State) :
    exec f.row s = exec (f.actsAs s).row (if f = .prefixCb then s.touch (s.pc + 1) else s) := by
  by_cases h : f = .prefixCb
  · subst h
    rw [if_pos rfl, Form.actsAs, Instr.row_form, ← cbRule_eq]; rfl
  · rw [if_neg h, show f.actsAs s = f from by unfold Form.actsAs; split <;> first | rfl | exact absurd rfl h]

/-! Reading a byte changes none of what a form does -/

theorem spAfter_touch (f : Form) (s : State) (a : Word) : f.spAfter (s.touch a) = f.spAfter s := by
  rw [State.touch_eq]
  cases f with
  | callCc cc _ => cases cc <;> rfl
  | retCc cc => cases cc <;> rfl
  | ldPairD16 p w => cases p <;> rfl
  | incPair p => cases p <;> rfl
  | decPair p => cases p <;> rfl
  | _ => rfl

theorem cycles_touch (f : Form) (s : State) (a : Word) : f.cycles (s.touch a) = f.cycles s := by
  rw [State.touch_eq]
  cases f with
  | jpCc cc _ | jrCc cc _ | callCc cc _ | retCc cc => cases cc <;> rfl
  | _ => rfl

theorem runAfter_touch (f : Form) (s : State) (a : Word) : f.runAfter (s.touch a) = f.runAfter s := by
  rw [State.touch_eq]; cases f <;> rfl

theorem imeAfter_touch (f : Form) (s : State) (a : Word) : f.imeAfter (s.touch a) = f.imeAfter s := by
  rw [State.touch_eq]; cases f <;> rfl

theorem stores_touch (f : Form) (s : State) (a : Word) : f.stores (s.touch a) = f.stores s := by
  rw [State.touch_eq]
  cases f with
  | inc x | dec x | cbRot _ x | res _ x | set _ x => cases x <;> rfl
  | callCc cc _ => cases cc <;> rfl
  | _ => rfl

/-- Every row answers a next state, with the effect of the form it acts as, from the state in which its bytes are read. -/
theorem exec_effect (f : Form) (s : State) : ∃ t, exec f.row s = .next t ∧
    Effect (f.actsAs s) (if f = .prefixCb then s.touch (s.pc + 1) else s) t := by
  rw [exec_actsAs]
  exact exec_row_effect _ (Form.actsAs_ne_prefix f s) _

end Sys2Proof.Machine
end

