-- ==== Sys2Proof/Laws/Operations.lean ====
section
/-! SUPPORT. The shared operations with an 8-bit operand, said once for a register and (HL) alike; cells and what they read as. -/

namespace Sys2Proof.Machine

/-! ## Storage cells -/

/-- The cell behind an address is the address itself, or for the echo the work-RAM address 0x2000 below (R36, R81). -/
theorem cellOf_cases {a : Word} {k : Nat} (h : cellOf a = some k) :
    k = a.toNat ∨ (k + 0x2000 = a.toNat ∧ 0xC000 ≤ k ∧ k < 0xDE00) := by
  have hb := regionOf_bounds a
  unfold cellOf at h
  cases hr : regionOf a <;> rw [hr] at hb h <;> dsimp only at hb h <;>
    first | (have := Option.some.inj h; omega) | cases h

/-- An address with a cell reads as the cell. -/
theorem State.peek_of_cell {s : State} {a : Word} {k : Nat} (h : cellOf a = some k) : s.peek a = Memory.load s.ram k := by
  unfold cellOf at h
  unfold State.peek
  cases hr : regionOf a <;> rw [hr] at h <;> dsimp only at h <;> first | rw [← Option.some.inj h] | cases h

/-- A read of an address with a cell changes nothing. -/
theorem State.touch_of_cell {s : State} {a : Word} {k : Nat} (h : cellOf a = some k) : s.touch a = s := by
  refine State.touch_of_usable s fun hr => ?_
  unfold cellOf at h
  rw [hr] at h
  cases h

/-- A pop whose two bytes have cells (R201). -/
theorem pop16_of_cells {t : State} {a : Word} {j k : Nat} (ha : t.sp = a) (hk : cellOf a = some k)
    (hj : cellOf (a + 1) = some j) : pop16 t = (wordOf (t.peek (a + 1)) (t.peek a), { t with sp := a + 2 }) := by
  subst ha
  rw [pop16_eq, State.touch_of_cell hk, State.touch_of_cell hj]

/-! ## Operands -/

theorem readR8_eq (x : R8) (s : State) : readR8 x s = (s.operand x, s.afterRead x) := by cases x <;> rfl

/-- An accumulator operation: A and F from the operand, nothing else but the read, PC and the cycles (R220 to R228). -/
theorem aluOp_eq (op : Alu) (x : R8) (len c : Nat) (s : State) :
    aluOp op x len c s = .next
      { (s.afterRead x).past len c with
        a := (aluResult op s.a (s.operand x) s.flagC).value
        f := packFlags (aluResult op s.a (s.operand x) s.flagC).z (aluResult op s.a (s.operand x) s.flagC).n
          (aluResult op s.a (s.operand x) s.flagC).h (aluResult op s.a (s.operand x) s.flagC).c } := by
  cases x with
  | reg r => cases r <;> rfl
  | memHl => simp only [aluOp, retire, readR8, readByte, State.touch_eq, State.operand, State.afterRead]; rfl

/-- A read-modify-write: the operand and F, nothing else but the read, PC and the cycles (R229 to R232, R290). -/
theorem retire_modifyR8 (x : R8) (len c : Nat) (g : Byte → Bool → Flagged) (s : State) :
    retire len c (modifyR8 x g) s = .next
      { writeR8 x (g (s.operand x) s.flagC).value ((s.afterRead x).past len c) with
        f := packFlags (g (s.operand x) s.flagC).z (g (s.operand x) s.flagC).n (g (s.operand x) s.flagC).h
          (g (s.operand x) s.flagC).c } := by
  cases x with
  | reg r => cases r <;> rfl
  | memHl =>
    simp only [retire, modifyR8, readR8, readByte, State.touch_eq, State.operand, State.afterRead, writeR8, writeByte_nf]; rfl

/-! ## Many writes -/

/-- Writes leave the cells alone that are none of theirs, and keep the canonical form. -/
theorem writeAll_load (ws : List (Word × Byte)) {s : State} (hm : Memory.wf s.ram) {k : Nat}
    (h : ∀ x ∈ ws, cellOf x.1 ≠ some k) :
    Memory.wf (writeAll ws s).ram ∧ Memory.load (writeAll ws s).ram k = Memory.load s.ram k := by
  induction ws generalizing s with
  | nil => exact ⟨hm, rfl⟩
  | cons x ws ih =>
    obtain ⟨b, v⟩ := x
    obtain ⟨h1, h2⟩ := ih (writeByte_ram_wf hm b v) fun x hx => h x (List.mem_cons_of_mem _ hx)
    refine ⟨h1, h2.trans ?_⟩
    rw [writeByte_ram]
    cases hb : cellOf b with
    | none => rfl
    | some j =>
      refine (Memory.load_store hm.1 j k _).trans (if_neg ?_)
      rintro rfl
      exact h (b, v) List.mem_cons_self hb

/-- Writes that spare 0xFF50 leave the latch alone. -/
theorem writeAll_bootUnmap (ws : List (Word × Byte)) (s : State) (h : ∀ x ∈ ws, x.1.toNat ≠ bootAddr) :
    (writeAll ws s).bootUnmap = s.bootUnmap := by
  induction ws generalizing s with
  | nil => rfl
  | cons x ws ih =>
    rw [writeAll, ih _ fun x hx => h x (List.mem_cons_of_mem _ hx), writeByte_bootUnmap,
      decide_eq_false (h x List.mem_cons_self), Bool.false_and, Bool.or_false]

end Sys2Proof.Machine
end

