-- ==== Sys2Proof/Laws/Step.lean ====
section
/-! SUPPORT. One step, case by case: the run states, the interrupt check, the fetch, and everything a CPU step can do. -/

namespace Sys2Proof.Machine

/-! ## The run states (R400, R403, R404) -/

theorem cpuStep_running {s : State} (ie b : Bool) (h : s.runState = .running) : cpuStep ie b s = runningStep s := by
  unfold cpuStep; rw [h]

theorem cpuStep_halted {s : State} (ie b : Bool) (h : s.runState = .halted) :
    cpuStep ie b s = if haltWake ie s then runningStep { s with runState := .running } else .next (idle s) := by
  unfold cpuStep; rw [h]

theorem cpuStep_stopped {s : State} (ie b : Bool) (h : s.runState = .stopped) :
    cpuStep ie b s = if b then runningStep { s with runState := .running } else .next (idle s) := by
  unfold cpuStep; rw [h]

theorem cpuStep_faulted {s : State} (ie b : Bool) (h : s.runState = .faulted) :
    cpuStep ie b s = .fault (recordedFault s) := by
  unfold cpuStep; rw [h]

/-- Taking the host's input of a step touches the inputs only (log 8). -/
theorem takeButton_snd (s : State) : (takeButton s).2 = { s with buttonEvents := s.buttonEvents.tail, ticks := s.ticks + 1 } := by
  unfold takeButton
  rcases s with ⟨⟩
  rename_i bs _ _
  cases bs <;> rfl

theorem machineStep_eq (ie : Bool) (s : State) : machineStep ie s = systemStep ie (takeButton s).1 (takeButton s).2 := rfl

theorem step_eq (s : State) : step s = systemStep haltWakeNeedsIe (takeButton s).1 (takeButton s).2 := rfl

/-! ## The interrupt check (R420, R421) -/

theorem pending_getLsbD (s : State) {k : Nat} (hk : k < 5) :
    s.pending.getLsbD k = (s.ifReg.getLsbD k && s.ieReg.getLsbD k) := by
  have low : ∀ k < 5, (0x1F : Byte).getLsbD k = true := by decide
  rw [State.pending, BitVec.getLsbD_and, BitVec.getLsbD_and, Bool.and_comm (s.ieReg.getLsbD k), low k hk, Bool.and_true]

theorem and_1F_ne_zero (v : Byte) : (v &&& 0x1F) ≠ 0 ↔ ∃ k < 5, v.getLsbD k = true := by
  have low : ∀ k < 8, (0x1F : Byte).getLsbD k = decide (k < 5) := by decide
  constructor
  · intro h
    by_contra hn
    refine h (BitVec.eq_of_getLsbD_eq fun k hk => ?_)
    rw [BitVec.getLsbD_and, low k hk, show (0 : Byte).getLsbD k = false from BitVec.getLsbD_zero]
    by_cases h5 : k < 5
    · rw [Bool.eq_false_iff.mpr fun hv => hn ⟨k, h5, hv⟩, Bool.false_and]
    · rw [decide_eq_false h5, Bool.and_false]
  · rintro ⟨k, hk, h⟩ e
    have hz : (v &&& 0x1F).getLsbD k = false := by rw [e]; exact BitVec.getLsbD_zero
    rw [BitVec.getLsbD_and, low k (by omega), h, decide_eq_true hk] at hz
    cases hz

/-- What wakes HALTED, for either value of the parameter: a request in bits 0 to 4, or one that is enabled too (R403). -/
theorem haltWake_iff (ie : Bool) (s : State) :
    haltWake ie s = true ↔ ∃ k < 5, (s.ifReg.getLsbD k && (!ie || s.ieReg.getLsbD k)) = true := by
  unfold haltWake
  cases ie
  · simp only [Bool.false_eq_true, if_false, bne_iff_ne, and_1F_ne_zero, Bool.not_false, Bool.true_or, Bool.and_true]
  · simp only [if_true, bne_iff_ne, State.pending, and_1F_ne_zero, BitVec.getLsbD_and, Bool.not_true, Bool.false_or,
      Bool.and_comm]

theorem lowestBit_eq_some {v : Byte} {k : Nat} (hk : k < 5) (h : v.getLsbD k = true) (hj : ∀ j < k, v.getLsbD j = false) :
    lowestBit v = some k := by
  rw [lowestBit, List.find?_range_eq_some]
  exact ⟨h, by simpa using hk, fun j hj' => by simp [hj j hj']⟩

theorem lowestBit_lt {v : Byte} {k : Nat} (h : lowestBit v = some k) : k < 5 := by
  rw [lowestBit, List.find?_range_eq_some] at h
  simpa using h.2.1

theorem lowestBit_eq_none (v : Byte) : lowestBit v = none ↔ ∀ k < 5, v.getLsbD k = false := by
  rw [lowestBit, List.find?_range_eq_none]; simp

/-- Taking an interrupt in one record update: everything it can do (R420). -/
theorem takeInterrupt_nf (k : Nat) (s : State) :
    takeInterrupt k s =
      { s with
        pc := 0x0040 + 8 * BitVec.ofNat 16 k, sp := s.sp - 2, ime := false, imeSched := false
        cycleCounter := s.cycleCounter + 20
        ram := storeCell (s.sp - 2) (loByte s.pc) (storeCell (s.sp - 1) (hiByte s.pc)
          (Memory.store s.ram ifAddr (s.ifReg &&& ~~~((1 : Byte) <<< k))))
        bootUnmap := latchAfter (s.sp - 2) (loByte s.pc) (latchAfter (s.sp - 1) (hiByte s.pc) s.bootUnmap) } := by
  simp only [takeInterrupt, push16_nf]; rfl

/-! ## Fetching and decoding (R101, R121) -/

/-- What the machine fetches is what the decoder reads from the bytes at PC, and it reads exactly the instruction's bytes. -/
theorem fetchInstr_of_decode {s : State} {i : Instr} {rest : List Byte}
    (h : decode (fetchBytes 3 s.pc s).1 = .ok (i, rest)) :
    fetchInstr s = (i, (fetchBytes (encode i).length s.pc s).2) := by
  have e : s.pc + 1 + 1 = s.pc + 2 := by bv_omega
  have enc := slotOf_encodes (s.peek s.pc)
  have cb := (cbInstr_encodes ((s.touch s.pc).peek (s.pc + 1))).1
  simp only [fetchBytes, readByte, decode] at h
  unfold fetchInstr
  simp only [readByte]
  cases hs : slotOf (s.peek s.pc) <;> simp only [hs, Slot.encodesAt, Except.ok.injEq, Prod.mk.injEq] at h enc ⊢
  · rw [← h.1, enc]; exact ⟨rfl, rfl⟩
  · rw [← h.1, enc]; exact ⟨rfl, rfl⟩
  · rw [← e, ← h.1, enc]; exact ⟨rfl, rfl⟩
  · rw [← h.1, cb]; exact ⟨rfl, rfl⟩

/-- Fetching always finds an instruction, and changes nothing but the draws. -/
theorem fetchInstr_snd (s : State) : (fetchInstr s).2 = { s with draws := (fetchInstr s).2.draws } := by
  unfold fetchInstr
  simp only [readByte, State.touch_eq]
  cases slotOf (s.peek s.pc) <;> rfl

/-- Only the undefined rows' own bytes fetch an undefined row (R140). -/
theorem fetchInstr_undefined {s : State} {u : Undefined} (h : (fetchInstr s).1.form = .undefined u) : s.peek s.pc = u.byte := by
  have hrow : (fetchInstr s).1 = (Form.undefined u).row := by rw [← h, Instr.row_form]
  have henc : encode (Form.undefined u).row = [u.byte] := by cases u <;> rfl
  have enc := slotOf_encodes (s.peek s.pc)
  unfold fetchInstr at hrow
  simp only [readByte] at hrow
  cases hs : slotOf (s.peek s.pc) <;> simp only [hs, Slot.encodesAt] at hrow enc
  · rw [hrow, henc] at enc; exact (List.cons.inj enc).1.symm
  · have := enc ((s.touch s.pc).peek (s.pc + 1)); rw [hrow, henc] at this; simp at this
  · have := enc (wordOf (((s.touch s.pc).touch (s.pc + 1)).peek (s.pc + 2)) ((s.touch s.pc).peek (s.pc + 1)))
    rw [hrow, henc] at this; simp at this
  · have := (cbInstr_encodes ((s.touch s.pc).peek (s.pc + 1))).1; rw [hrow, henc] at this; simp at this

/-- The delayed effect of an EI touches IME and the pending EI only (R31). -/
theorem promoteEi_eq (s : State) : promoteEi s = { s with ime := (promoteEi s).ime, imeSched := false } := by
  unfold promoteEi
  split
  · rfl
  · next h => rcases s with ⟨⟩; simp_all

/-- A form that leaves FAULTED is an undefined byte's, unless the machine was FAULTED (R411). -/
theorem runAfter_faulted {f : Form} {s : State} (h : f.runAfter s = .faulted) (hs : s.runState ≠ .faulted) :
    ∃ u, f = .undefined u := by
  cases f <;> first | exact ⟨_, rfl⟩ | exact absurd h hs | cases h

/-! ## Everything a CPU step can do -/

/-- What a step of the CPU did: it idled; it took an interrupt; or it ran the instruction it fetched. The state it starts from is
RUNNING in the last two cases, woken if it was not. -/
inductive CpuMove (s t : State) : Prop where
  | idle (h : s.runState = .halted ∨ s.runState = .stopped) (ht : t = idle s)
  | interrupt (k : Nat) (hk : k < 5) (h : s.runState ≠ .faulted)
      (ht : t = takeInterrupt k { s with runState := .running })
  | ran (h : s.runState ≠ .faulted) (ht : runInstruction { s with runState := .running } = .next t)

theorem runningStep_move {s t : State} (h : s.runState ≠ .faulted)
    (ht : runningStep { s with runState := .running } = .next t) : CpuMove s t := by
  unfold runningStep at ht
  split at ht
  · next k hk =>
    refine .interrupt k ?_ h (Host.Outcome.next.inj ht).symm
    unfold State.interrupt at hk
    split at hk
    · exact lowestBit_lt hk
    · cases hk
  · exact .ran h ht

theorem cpuStep_move {ie b : Bool} {s t : State} (ht : cpuStep ie b s = .next t) : CpuMove s t := by
  cases h : s.runState
  · have hs : { s with runState := .running } = s := by rw [← h]
    rw [cpuStep_running ie b h] at ht
    exact runningStep_move (by rw [h]; decide) (by rw [hs]; exact ht)
  · rw [cpuStep_halted ie b h] at ht
    split at ht
    · exact runningStep_move (by rw [h]; decide) ht
    · exact .idle (.inl h) (Host.Outcome.next.inj ht).symm
  · rw [cpuStep_stopped ie b h] at ht
    split at ht
    · exact runningStep_move (by rw [h]; decide) ht
    · exact .idle (.inr h) (Host.Outcome.next.inj ht).symm
  · rw [cpuStep_faulted ie b h] at ht
    cases ht

/-- Running an instruction answers a next state, with the effect of the form fetched, from a state that differs from the
promoted one in the draws only. -/
theorem runInstruction_effect (s : State) : ∃ (f : Form) (d : Nat) (t : State), runInstruction s = .next t ∧ f ≠ .prefixCb ∧
    Effect f { promoteEi s with draws := d } t ∧
    (∀ u, f = .undefined u → (promoteEi s).peek (promoteEi s).pc = u.byte ∧
      t = { promoteEi s with draws := d, fault := some ⟨(promoteEi s).pc, u.byte⟩, runState := .faulted }) := by
  have hu : runInstruction s = exec (fetchInstr (promoteEi s)).1 (fetchInstr (promoteEi s)).2 := rfl
  have hs := fetchInstr_snd (promoteEi s)
  have hb := fun u => fetchInstr_undefined (s := promoteEi s) (u := u)
  rw [← Instr.row_form (fetchInstr (promoteEi s)).1, exec_actsAs] at hu
  generalize fetchInstr (promoteEi s) = p at hu hs hb
  obtain ⟨i, q⟩ := p
  simp only at hu hs hb
  have hq : ∃ d, (if i.form = .prefixCb then q.touch (q.pc + 1) else q) = { promoteEi s with draws := d } := by
    split
    · exact ⟨_, by rw [State.touch_eq, hs]⟩
    · exact ⟨_, hs⟩
  obtain ⟨d, hd⟩ := hq
  rw [hd] at hu
  obtain ⟨t, ht, e⟩ := exec_row_effect _ (Form.actsAs_ne_prefix i.form q) { promoteEi s with draws := d }
  refine ⟨_, d, t, hu.trans ht, Form.actsAs_ne_prefix i.form q, e, fun u hu' => ?_⟩
  have hf : i.form = .undefined u := by
    by_cases hp : i.form = .prefixCb
    · rw [hp, Form.actsAs] at hu'
      have h2 := (cbInstr_encodes (q.peek (q.pc + 1))).1
      rw [← Instr.row_form (cbInstr (q.peek (q.pc + 1))), hu'] at h2
      have h3 : encode (Form.undefined u).row = [u.byte] := by cases u <;> rfl
      rw [h3] at h2; simp at h2
    · rwa [show i.form.actsAs q = i.form from by unfold Form.actsAs; split <;> first | rfl | exact absurd ‹_› hp] at hu'
  refine ⟨hb u hf, ?_⟩
  rw [hu', exec_row] at ht
  exact (Host.Outcome.next.inj ht).symm

/-- A CPU that is not FAULTED steps. -/
theorem cpuStep_answers {s : State} (ie b : Bool) (h : s.runState ≠ .faulted) : ∃ t, cpuStep ie b s = .next t := by
  have run : ∀ s : State, ∃ t, runningStep s = .next t := by
    intro s
    unfold runningStep
    split
    · exact ⟨_, rfl⟩
    · obtain ⟨_, _, t, h, _⟩ := runInstruction_effect s; exact ⟨t, h⟩
  cases hr : s.runState
  · rw [cpuStep_running _ _ hr]; exact run _
  · rw [cpuStep_halted _ _ hr]; split; exact run _; exact ⟨_, rfl⟩
  · rw [cpuStep_stopped _ _ hr]; split; exact run _; exact ⟨_, rfl⟩
  · exact absurd hr h

end Sys2Proof.Machine
end

