-- ==== Sys2Proof/Tests/Slice0.lean ====
section
/-! SUPPORT. The model's own tests: ill-formed terms, words written out from the encoding tables, one step on a small state
with the expected values of spec/95_test_vectors.md (the vector's number stands before each), and a witness for the hypotheses
of every statement that has some. -/

namespace Sys2Proof.Machine

/-! ## Helpers -/

/-- A state with bytes at 0xC000 and PC there, the overlay gone (the conventions of spec/95_test_vectors.md). -/
def code (bytes : List Byte) : State := State.placeBytes bytes 0xC000 { State.reset with pc := 0xC000, bootUnmap := true }

/-- What is seen of the next state, if there is one. -/
def seen {α : Type} (r : Result) (p : State → α) : Option α :=
  match r with
  | .next t => some (p t)
  | .fault _ => none
  | .refused _ => none

/-- What is seen after one step of the CPU without `button_event`. -/
def run {α : Type} (s : State) (p : State → α) : Option α := seen (cpuStep false false s) p

/-- The instruction the decoder reads at the front of some bytes, and how many bytes it leaves. -/
def decoded (bytes : List Byte) : Option (Instr × Nat) :=
  match decode bytes with
  | .ok (i, rest) => some (i, rest.length)
  | .error _ => none

/-! ## Well-formedness -/

theorem test_bare_prefix_is_ill_formed : Instr.prefixCb.wellFormed = false := by decide
theorem test_second_page_is_well_formed : (Instr.set7A).wellFormed = true := by decide
theorem test_no_bytes_do_not_decode : decoded [] = none := by decide
theorem test_truncated_word_does_not_decode : decoded [0xC3, 0x50] = none := by decide

/-! ## Words written out bit by bit (R124 to R129, R132, R133) -/

theorem test_decode_ld_b_c : decoded [0b01000001] = some (.ldBC, 0) := by decide
theorem test_decode_ld_a_mem_hl : decoded [0b01111110] = some (.ldAMemHl, 0) := by decide
theorem test_decode_ld_mem_hl_l : decoded [0b01110101] = some (.ldMemHlL, 0) := by decide
theorem test_decode_ld_h_d8 : decoded [0b00100110, 0x9C] = some (.ldHD8 0x9C, 0) := by decide
theorem test_decode_ldh_mem_a8_a : decoded [0b11100000, 0x44] = some (.ldhMemA8A 0x44, 0) := by decide
theorem test_decode_ld_sp_d16 : decoded [0b00110001, 0xFE, 0xFF] = some (.ldSpD16 0xFFFE, 0) := by decide
theorem test_decode_ld_mem_a16_sp : decoded [0b00001000, 0x00, 0xD0] = some (.ldMemA16Sp 0xD000, 0) := by decide
theorem test_decode_push_af : decoded [0b11110101] = some (.pushAf, 0) := by decide
theorem test_decode_pop_de : decoded [0b11010001] = some (.popDe, 0) := by decide
theorem test_decode_adc_a_c : decoded [0b10001001] = some (.adcAC, 0) := by decide
theorem test_decode_cp_d8 : decoded [0b11111110, 0x42] = some (.cpD8 0x42, 0) := by decide
theorem test_decode_inc_mem_hl : decoded [0b00110100] = some (.incMemHl, 0) := by decide
theorem test_decode_dec_l : decoded [0b00101101] = some (.decL, 0) := by decide
theorem test_decode_daa : decoded [0b00100111] = some (.daa, 0) := by decide
theorem test_decode_add_hl_de : decoded [0b00011001] = some (.addHlDe, 0) := by decide
theorem test_decode_dec_bc : decoded [0b00001011] = some (.decBc, 0) := by decide
theorem test_decode_ld_hl_sp_plus_r8 : decoded [0b11111000, 0xFE] = some (.ldHlSpPlusR8 0xFE, 0) := by decide
theorem test_decode_rra : decoded [0b00011111] = some (.rra, 0) := by decide
theorem test_decode_swap_mem_hl : decoded [0b11001011, 0b00110110] = some (.cbSwapMemHl, 0) := by decide
theorem test_decode_sra_l : decoded [0b11001011, 0b00101101] = some (.cbSraL, 0) := by decide
theorem test_decode_bit_4_l : decoded [0b11001011, 0b01100101] = some (.bit4L, 0) := by decide
theorem test_decode_res_7_mem_hl : decoded [0b11001011, 0b10111110] = some (.res7MemHl, 0) := by decide
theorem test_decode_set_2_e : decoded [0b11001011, 0b11010011] = some (.set2E, 0) := by decide
theorem test_decode_jp_c_a16 : decoded [0b11011010, 0x34, 0x12] = some (.jpCA16 0x1234, 0) := by decide
theorem test_decode_jr_nc_r8 : decoded [0b00110000, 0x10] = some (.jrNcR8 0x10, 0) := by decide
theorem test_decode_call_nc_a16 : decoded [0b11010100, 0x00, 0x20] = some (.callNcA16 0x2000, 0) := by decide
theorem test_decode_ret_nz : decoded [0b11000000] = some (.retNz, 0) := by decide
theorem test_decode_rst_38 : decoded [0b11111111] = some (.rst38H, 0) := by decide
theorem test_decode_stop_pad : decoded [0b00010000, 0xD3, 0x00] = some (.stop 0xD3, 1) := by decide
theorem test_decode_undefined_dd : decoded [0b11011101] = some (.illegalDD, 0) := by decide

/-! ## The table's numbering (log 12) and where the next instruction is put (log 5) -/

theorem test_table_word_plain : decodeTableWord 24 0x0150C3 = some (.jpA16 0x0150) := by decide
theorem test_table_word_operand : decodeTableWord 8 0xC3 = some (.jpA16 0) := by decide
theorem test_table_word_second_page : decodeTableWord 16 0xCB37 = some .cbSwapA := by decide
theorem test_table_word_prefix : decodeTableWord 8 0xCB = some .prefixCb := by decide
theorem test_fetch_word_after_reset :
    run (State.reset.withFetchWord 16 0x0C3E) (fun t => (t.a, t.pc)) = some (0x0C, 2) := by decide
theorem test_fetch_word_second_page :
    run ({ State.reset with a := 0xF1 }.withFetchWord 16 0xCB37) (fun t => (t.a, t.pc)) = some (0x1F, 2) := by decide
theorem test_fetch_word_where_nothing_can_stand :
    run ({ State.reset with pc := 0xA123 }.withFetchWord 8 0x3C) (fun t => (t.a, t.pc)) = some (1, 0xC001) := by decide

/-! ## Loads -/

-- V3
theorem test_ld_h_d8 :
    run (code [0x26, 0x9C]) (fun t => (t.h, t.f, t.pc)) = some (0x9C, 0x00, 0xC002) := by decide
-- V4
theorem test_ld_a_mem_hl :
    run (({ code [0x7E] with h := 0xD1, l := 0x23 } : State).poke 0xD123 0xAB) (fun t => (t.a, t.pc, t.cycleCounter)) = some (0xAB, 0xC001, 8) := by decide
-- V6
theorem test_ld_mem_hl_l :
    run { code [0x75] with h := 0xD1, l := 0x23 } (fun t => t.peek 0xD123) = some 0x23 := by decide
-- V11
theorem test_ld_mem_de_a_to_rom_is_discarded :
    run { code [0x12] with d := 0x40, a := 0x11, cart := [(0x4000, 0x00)] } (fun t => (t.peek 0x4000, t.pc)) = some (0x00, 0xC001) := by decide
-- V12
theorem test_ld_mem_hl_inc_a_wraps :
    run { code [0x22] with h := 0xFF, l := 0xFF, a := 0x1F } (fun t => (t.hl, t.ieReg)) = some (0x0000, 0x1F) := by decide
-- V15
theorem test_ld_a_mem_hl_dec :
    run (({ code [0x3A] with h := 0xD1, l := 0x00 } : State).poke 0xD100 0x3C) (fun t => (t.a, t.hl)) = some (0x3C, 0xD0FF) := by decide
-- V17
theorem test_ldh_to_ly_clears_it :
    run (({ code [0xE0, 0x44] with a := 0x9A } : State).poke 0xFF44 0x63) (fun t => t.ly) = some 0x00 := by decide
-- V18
theorem test_ldh_to_ff50_removes_the_overlay :
    run { code [0xE0, 0x50] with a := 0x01, bootUnmap := false } (fun t => (t.bootUnmap, t.peek 0xFF50)) = some (true, 0x01) := by decide
-- V21
theorem test_ld_a_mem_c :
    run (({ code [0xF2] with c := 0x0F } : State).poke 0xFF0F 0x15) (fun t => t.a) = some 0x15 := by decide
-- V23
theorem test_ld_a_mem_a16_external :
    run (code [0xFA, 0x34, 0xA2]) (fun t => (t.a, t.cycleCounter)) = some (0xFF, 16) := by decide
-- V27
theorem test_ld_mem_a16_sp :
    run { code [0x08, 0x00, 0xD0] with sp := 0xFFF8 } (fun t => (t.peek 0xD000, t.peek 0xD001, t.cycleCounter)) = some (0xF8, 0xFF, 20) := by decide
-- V30
theorem test_push_af :
    run { code [0xF5] with a := 0x12, f := 0xB0, sp := 0xD000 } (fun t => (t.sp, t.peek 0xCFFE, t.peek 0xCFFF)) = some (0xCFFE, 0xB0, 0x12) := by decide
-- V33
theorem test_pop_af_masks_f :
    run ((({ code [0xF1] with sp := 0xCFFE } : State).poke 0xCFFE 0xFF).poke 0xCFFF 0x12) (fun t => (t.a, t.f, t.sp)) = some (0x12, 0xF0, 0xD000) := by decide

/-! ## Arithmetic and logic -/

-- V35
theorem test_add_a_b_wraps :
    run { code [0x80] with a := 0x3A, b := 0xC6 } (fun t => (t.a, t.f, t.cycleCounter)) = some (0x00, 0xB0, 4) := by decide
-- V40
theorem test_adc_a_d8 :
    run { code [0xCE, 0xFF] with f := 0x10 } (fun t => (t.a, t.f)) = some (0x00, 0xB0) := by decide
-- V44
theorem test_sub_d8_borrows :
    run { code [0xD6, 0x40] with a := 0x3E } (fun t => (t.a, t.f)) = some (0xFE, 0x50) := by decide
-- V47
theorem test_sbc_a_h :
    run { code [0x9C] with a := 0x10, h := 0x0F, f := 0x10 } (fun t => (t.a, t.f)) = some (0x00, 0xE0) := by decide
-- V49
theorem test_and_d8 :
    run { code [0xE6, 0x00] with a := 0xFF, f := 0x10 } (fun t => (t.a, t.f)) = some (0x00, 0xA0) := by decide
-- V50
theorem test_xor_a :
    run { code [0xAF] with a := 0x5A, f := 0xF0 } (fun t => (t.a, t.f)) = some (0x00, 0x80) := by decide
-- V52
theorem test_or_e :
    run { code [0xB3] with a := 0x50, e := 0x0A, f := 0xF0 } (fun t => (t.a, t.f)) = some (0x5A, 0x00) := by decide
-- V54 and S16
theorem test_cp_d8_equal :
    run { code [0xFE, 0x42] with a := 0x42 } (fun t => (t.a, t.f, t.pc)) = some (0x42, 0xC0, 0xC002) := by decide
-- V59
theorem test_inc_mem_hl :
    run (({ code [0x34] with h := 0xD0 } : State).poke 0xD000 0x4F) (fun t => (t.peek 0xD000, t.f, t.cycleCounter)) = some (0x50, 0x20, 12) := by decide
-- V61
theorem test_dec_a_wraps :
    run { code [0x3D] with f := 0x10 } (fun t => (t.a, t.f)) = some (0xFF, 0x70) := by decide
-- V64
theorem test_daa_after_add :
    run { code [0x27] with a := 0x7D } (fun t => (t.a, t.f)) = some (0x83, 0x00) := by decide
-- V68
theorem test_daa_after_sub :
    run { code [0x27] with a := 0xFF, f := 0x70 } (fun t => (t.a, t.f)) = some (0x99, 0x50) := by decide
-- V69
theorem test_cpl :
    run { code [0x2F] with a := 0x35, f := 0x90 } (fun t => (t.a, t.f)) = some (0xCA, 0xF0) := by decide
-- V70
theorem test_scf :
    run { code [0x37] with f := 0xE0 } (fun t => t.f) = some 0x90 := by decide
-- V71
theorem test_ccf :
    run { code [0x3F] with f := 0xF0 } (fun t => t.f) = some 0x80 := by decide
-- V73
theorem test_add_hl_bc_half_carry :
    run { code [0x09] with h := 0x8A, l := 0x23, b := 0x06, c := 0x05, f := 0x80 } (fun t => (t.hl, t.f)) = some (0x9028, 0xA0) := by decide
-- V77
theorem test_inc_de_wraps :
    run { code [0x13] with d := 0xFF, e := 0xFF, f := 0xF0 } (fun t => (t.de, t.f)) = some (0x0000, 0xF0) := by decide
-- V79
theorem test_dec_bc_wraps :
    run (code [0x0B]) (fun t => (t.bc, t.f)) = some (0xFFFF, 0x00) := by decide
-- V83
theorem test_add_sp_r8_negative :
    run { code [0xE8, 0xFF] with sp := 0x0001 } (fun t => (t.sp, t.f)) = some (0x0000, 0x30) := by decide
-- V87
theorem test_ld_hl_sp_minus_128 :
    run { code [0xF8, 0x80] with sp := 0x0080 } (fun t => (t.hl, t.f, t.sp)) = some (0x0000, 0x10, 0x0080) := by decide

/-! ## Rotates, shifts, bits -/

-- V88
theorem test_rlca :
    run { code [0x07] with a := 0x85 } (fun t => (t.a, t.f)) = some (0x0B, 0x10) := by decide
-- V90 and S12
theorem test_rla_clears_z :
    run { code [0x17] with a := 0x80 } (fun t => (t.a, t.f)) = some (0x00, 0x10) := by decide
-- V92
theorem test_rrca :
    run { code [0x0F] with a := 0x3B } (fun t => (t.a, t.f)) = some (0x9D, 0x10) := by decide
-- V95
theorem test_rra :
    run { code [0x1F] with f := 0x10 } (fun t => (t.a, t.f)) = some (0x80, 0x00) := by decide
-- V96
theorem test_rlc_b :
    run { code [0xCB, 0x00] with b := 0x85 } (fun t => (t.b, t.f, t.cycleCounter)) = some (0x0B, 0x10, 8) := by decide
-- V98
theorem test_rrc_c :
    run { code [0xCB, 0x09] with c := 0x01 } (fun t => (t.c, t.f)) = some (0x80, 0x10) := by decide
-- V100
theorem test_rl_a_sets_z :
    run { code [0xCB, 0x17] with a := 0x80 } (fun t => (t.a, t.f)) = some (0x00, 0x90) := by decide
-- V101
theorem test_rr_e :
    run { code [0xCB, 0x1B] with e := 0x01 } (fun t => (t.e, t.f)) = some (0x00, 0x90) := by decide
-- V104
theorem test_sla_mem_hl :
    run (({ code [0xCB, 0x26] with h := 0xD0 } : State).poke 0xD000 0xFF) (fun t => (t.peek 0xD000, t.f, t.cycleCounter)) = some (0xFE, 0x10, 16) := by decide
-- V105
theorem test_sra_l :
    run { code [0xCB, 0x2D] with l := 0x8A } (fun t => (t.l, t.f)) = some (0xC5, 0x00) := by decide
-- V107
theorem test_swap_a :
    run { code [0xCB, 0x37] with a := 0xF1, f := 0x10 } (fun t => (t.a, t.f)) = some (0x1F, 0x00) := by decide
-- V110
theorem test_srl_a :
    run { code [0xCB, 0x3F] with a := 0xFF } (fun t => (t.a, t.f)) = some (0x7F, 0x10) := by decide
-- V113
theorem test_bit_0_mem_hl :
    run (({ code [0xCB, 0x46] with h := 0xD0, f := 0x40 } : State).poke 0xD000 0xFE) (fun t => (t.f, t.cycleCounter)) = some (0xA0, 12) := by decide
-- V116
theorem test_res_7_mem_hl :
    run (({ code [0xCB, 0xBE] with h := 0xD0 } : State).poke 0xD000 0xFF) (fun t => (t.peek 0xD000, t.f)) = some (0x7F, 0x00) := by decide
-- V158
theorem test_set_2_e_is_not_the_undefined_d3 :
    run (code [0xCB, 0xD3]) (fun t => (t.e, t.pc)) = some (0x04, 0xC002) := by decide

/-! ## Jumps, calls, returns -/

-- V119
theorem test_jp_a16 :
    run (code [0xC3, 0x50, 0x01]) (fun t => (t.pc, t.cycleCounter)) = some (0x0150, 16) := by decide
-- V121
theorem test_jp_nz_not_taken :
    run { code [0xC2, 0x00, 0x80] with f := 0x80 } (fun t => (t.pc, t.cycleCounter)) = some (0xC003, 12) := by decide
-- V123
theorem test_jp_mem_hl :
    run { code [0xE9] with h := 0x40 } (fun t => t.pc) = some 0x4000 := by decide
-- V124 and S6
theorem test_jr_to_itself :
    run (code [0x18, 0xFE]) (fun t => (t.pc, t.cycleCounter)) = some (0xC000, 12) := by decide
-- V126
theorem test_jr_backwards :
    run (code [0x18, 0x80]) (fun t => t.pc) = some 0xBF82 := by decide
-- V130
theorem test_jr_nc_taken :
    run (code [0x30, 0x10]) (fun t => (t.pc, t.cycleCounter)) = some (0xC012, 12) := by decide
-- V131
theorem test_jr_c_not_taken :
    run (code [0x38, 0x10]) (fun t => (t.pc, t.cycleCounter)) = some (0xC002, 8) := by decide
-- V132
theorem test_call_a16 :
    run { code [0xCD, 0x34, 0x12] with sp := 0xD000 } (fun t => (t.pc, t.sp, t.peek 0xCFFE, t.peek 0xCFFF)) = some (0x1234, 0xCFFE, 0x03, 0xC0) := by decide
-- V133
theorem test_call_z_not_taken :
    run { code [0xCC, 0x34, 0x12] with sp := 0xD000 } (fun t => (t.pc, t.sp, t.cycleCounter)) = some (0xC003, 0xD000, 12) := by decide
-- V135
theorem test_ret :
    run ((({ code [0xC9] with sp := 0xCFFE } : State).poke 0xCFFE 0x03).poke 0xCFFF 0xC0) (fun t => (t.pc, t.sp)) = some (0xC003, 0xD000) := by decide
-- V137
theorem test_ret_nz_not_taken :
    run { code [0xC0] with sp := 0xCFFE, f := 0x80 } (fun t => (t.pc, t.sp, t.cycleCounter)) = some (0xC001, 0xCFFE, 8) := by decide
-- V139
theorem test_reti :
    run ((({ code [0xD9] with sp := 0xCFFE } : State).poke 0xCFFE 0x50).poke 0xCFFF 0xC1) (fun t => (t.pc, t.ime, t.cycleCounter)) = some (0xC150, true, 16) := by decide
-- V140
theorem test_rst_38 :
    run { code [0xFF] with sp := 0xD000 } (fun t => (t.pc, t.peek 0xCFFE, t.peek 0xCFFF)) = some (0x0038, 0x01, 0xC0) := by decide

/-! ## Control, interrupts, the fault -/

-- V143
theorem test_halt :
    run (code [0x76]) (fun t => (t.runState, t.pc)) = some (RunState.halted, 0xC001) := by decide
-- V146
theorem test_halted_wakes_and_dispatches :
    run ((({ code [0x76] with runState := .halted, pc := 0xC001, ime := true, sp := 0xD000 } : State).poke 0xFFFF 0x01).poke 0xFF0F 0x01) (fun t => (t.pc, t.runState, t.ifReg, t.cycleCounter)) = some (0x0040, RunState.running, 0x00, 20) := by decide
-- V147
theorem test_halted_wakes_without_enable :
    run (({ code [0x76, 0x04] with runState := .halted, pc := 0xC001, ime := true } : State).poke 0xFF0F 0x08) (fun t => (t.b, t.pc, t.ifReg)) = some (0x01, 0xC002, 0x08) := by decide
-- V157
theorem test_stop_takes_its_pad :
    run (code [0x10, 0xD3]) (fun t => (t.runState, t.pc)) = some (RunState.stopped, 0xC002) := by decide
-- V151
theorem test_stopped_is_not_ended_by_a_request :
    run ((({ code [0x10, 0x00, 0x3C] with runState := .stopped, pc := 0xC002, ime := true } : State).poke 0xFFFF 0x1F).poke 0xFF0F 0x1F) (fun t => (t.runState, t.pc, t.cycleCounter)) = some (RunState.stopped, 0xC002, 4) := by decide
-- V152
theorem test_di :
    run { code [0xF3] with ime := true } (fun t => t.ime) = some false := by decide
-- V153
theorem test_ei_is_delayed :
    run (code [0xFB]) (fun t => (t.ime, t.imeSched)) = some (false, true) := by decide
-- V161
theorem test_dispatch_takes_the_lowest_bit :
    run ((({ code [0x00] with ime := true, sp := 0xD000 } : State).poke 0xFFFF 0x14).poke 0xFF0F 0x1C) (fun t => (t.pc, t.ime, t.ifReg, t.cycleCounter)) = some (0x0050, false, 0x18, 20) := by decide
-- V163
theorem test_bits_5_to_7_are_no_request :
    run ((({ code [0x00] with ime := true } : State).poke 0xFFFF 0xE0).poke 0xFF0F 0xE0) (fun t => t.pc) = some 0xC001 := by decide
-- V156
theorem test_undefined_d3 :
    run { code [0xD3] with a := 0x11 } (fun t => (t.fault, t.runState, t.pc, t.cycleCounter)) = some (some ⟨0xC000, 0xD3⟩, RunState.faulted, 0xC000, 0) := by decide

/-! ## The LCD controller and the Machine -/

-- V167
theorem test_system_step_enters_vblank :
    seen (systemStep false false (({ code [0x00] with lcdAcc := 452 } : State).poke 0xFF44 0x8F))
      (fun t => (t.ly, t.lcdAcc, t.ifReg, t.frameReady)) = some (0x90, 0, 0x01, false) := by decide
-- V169
theorem test_system_step_wraps_the_frame :
    seen (systemStep false false (({ code [0xCD, 0x00, 0xC1] with sp := 0xD000, lcdAcc := 440 } : State).poke 0xFF44 0x99))
      (fun t => (t.ly, t.lcdAcc, t.ifReg, t.frameReady)) = some (0x00, 8, 0x00, true) := by decide
-- L7
theorem test_vblank_keeps_the_other_requests :
    (lcdStep 4 (({ State.reset with lcdAcc := 452 } : State).poke 0xFF44 0x8F |>.poke 0xFF0F 0xE1)).ifReg = 0xE1 := by decide
-- L20
theorem test_three_lines_across_the_wrap :
    (fun t : State => (t.ly, t.lcdAcc, t.frameReady))
      (lcdStep 913 (({ State.reset with lcdAcc := 455 } : State).poke 0xFF44 0x99)) = (0x02, 0, true) := by decide
-- T1: the formula's answer (90_conflicts.md C4)
theorem test_tile_row :
    tileRow ((State.reset.poke 0x8000 0x55).poke 0x8001 0x33) 0x8000 0 = [0, 1, 2, 3, 0, 1, 2, 3] := by decide
-- bg[0][8] = 3 of section 2.14, from tile 2 at map entry (1, 0)
theorem test_background_pixel :
    bgPixel ((State.reset.poke 0x9801 0x02).poke 0x8020 0xFF |>.poke 0x8021 0xFF) 0 8 = 3 := by decide
-- B4: frame[0][8] = bg[248][0], from tile 0xFF at map entry (0, 31)
theorem test_frame_pixel_wraps :
    framePixel (((State.reset.poke 0xFF42 0xF8).poke 0xFF43 0xF8).poke 0x9BE0 0xFF |>.poke 0x8FF0 0xFF) 0 8 = 1 := by decide
-- R410: the second step of a FAULTED machine answers the recorded fault
theorem test_faulted_machine_is_stuck :
    step { State.reset with runState := .faulted, fault := some ⟨0xC005, 0xDD⟩ } = .fault (.illegalOpcode 0xC005 0xDD) := rfl
-- R403: HALTED with IF bit 2 set and IE 0 wakes for `HALT_WAKE_NEEDS_IE` false (U8) and idles for true
theorem test_halt_wakes_on_any_request :
    let s := ({ code [0x3C] with runState := .halted } : State).poke 0xFF0F 0x04
    seen (cpuStep false false s) (fun t => (t.a, t.runState)) = some (0x01, .running) ∧
      seen (cpuStep true false s) (fun t => (t.a, t.runState)) = some (0x00, .halted) := by decide
-- R403, D8: the same with the request enabled
theorem test_halt_wakes_on_an_enabled_request :
    let s := (({ code [0x3C] with runState := .halted } : State).poke 0xFF0F 0x04).poke 0xFFFF 0x04
    seen (cpuStep true false s) (fun t => (t.a, t.runState)) = some (0x01, .running) := by decide
-- R60, D13: RAM as `RAM_INIT` says, the I/O bytes and IE 0 all the same
theorem test_reset_with_ram :
    let s := State.resetWith [(0xC000, 0x5A), (0xFF0F, 0x1F), (0xFFFF, 0x1F), (0xC000, 0xA5)]
    (s.peek 0xE000, s.ifReg, s.ieReg) = (0xA5, 0x00, 0x00) := by decide
-- R474 (b): what the boot program left stays, but for the contract's bytes and the ranges
theorem test_post_boot_leavings :
    let m := postBootRam { cells := [(0xFF0F, 0x01), (0xFF44, 0xFF), (0xFF40, 0x00), (0x8000, 0x12)], ly := 153 }
    (Memory.load m 0xFF0F, Memory.load m 0xFF44, Memory.load m 0xFF40, Memory.load m 0x8000) = (0x01, 0x99, 0x91, 0x12) := by decide
-- R102, R412
theorem test_loader_refuses_a_short_image : loadCartridge [0x00] = .error (.badLength 1) := rfl


/-! ## Witnesses: a concrete input meets the hypotheses of each statement that has some -/

/-- EncodedInstructionDecodesBack. -/
theorem witness_well_formed : (Instr.callA16 0xFFFF).wellFormed = true ∧ (Instr.cbSwapMemHl).wellFormed = true := by decide
/-- DecodedBytesEncodeBack. -/
theorem witness_decodes :
    decode [0x10, 0xFF, 0x00] = .ok (.stop 0xFF, [0x00]) ∧ decode [0xCB] = .ok (.prefixCb, []) := ⟨rfl, rfl⟩
/-- StepRunsDecodedInstruction: with the EI before it still pending, and with no input supplied. -/
theorem witness_step_runs :
    let s := { code [0x3E, 0x0C] with imeSched := true }
    s.runState = .running ∧ s.interrupt = none ∧ (Instr.ldAD8 0x0C).wellFormed = true ∧
      decode (fetchBytes 3 s.pc (promoteEi (takeButton s).2)).1 = .ok (.ldAD8 0x0C, [0x00]) := ⟨rfl, rfl, rfl, rfl⟩
/-- DecimalAdjustAfterAddAndSub, at 00 and 99. -/
theorem witness_packed :
    ({ State.reset with a := 0x99 } : State).a = BitVec.ofNat 8 (16 * (99 / 10 % 10) + 99 % 10) ∧
      State.reset.a = BitVec.ofNat 8 (16 * (0 / 10 % 10) + 0 % 10) := by decide
/-- StackRoundTrips, in work RAM and across the end of the address space (IE and high RAM). -/
theorem witness_stack :
    let holds (sp : Word) : Prop := Memory.wf (State.reset.ram) ∧ (∃ k, cellOf (sp - 1) = some k ∧ k ≠ lyAddr) ∧
      ∃ k, cellOf (sp - 2) = some k ∧ k ≠ lyAddr
    holds 0xD000 ∧ holds 0x0000 :=
  ⟨⟨by decide, ⟨0xCFFF, by decide, by decide⟩, ⟨0xCFFE, by decide, by decide⟩⟩,
   ⟨by decide, ⟨0xFFFF, by decide, by decide⟩, ⟨0xFFFE, by decide, by decide⟩⟩⟩
/-- RegisterFrame, FlagFrame, ControlStateFrame. -/
theorem witness_row_runs : ∃ t, exec (Form.alu .add .memHl).row State.reset = .next t := ⟨_, rfl⟩
/-- FlagFrame's last two clauses: F's low bits 0, and a form that leaves all four flags. -/
theorem witness_flags_kept :
    State.reset.f &&& 0x0F = 0 ∧ ∀ fl : Flag, (Form.actsAs (.ldRegReg .b .c) State.reset).flagEntry fl = .leave :=
  ⟨by decide, fun fl => by cases fl <;> rfl⟩
/-- ControlStateFrame's third clause. -/
theorem witness_no_undefined : ∀ u : Undefined, Form.actsAs .nop State.reset ≠ .undefined u := fun _ h => by cases h
/-- MemoryFrame, for a store to 0xD000 seen from 0xD001 and from the overlay. -/
theorem witness_memory_frame_stores :
    (Form.actsAs (.ldMemHlReg .a) { State.reset with h := 0xD0 }).stores { State.reset with h := 0xD0 } = [0xD000] := by
  show [wordOf 0xD0 0x00] = _; decide
theorem witness_memory_frame_runs : (∃ t, exec (Form.ldMemHlReg .a).row { State.reset with h := 0xD0 } = .next t) ∧
    Memory.wf State.reset.ram ∧ regionOf 0xD001 ≠ .unusable ∧ regionOf 0x0000 ≠ .unusable :=
  ⟨⟨_, rfl⟩, by decide, by decide, by decide⟩
theorem witness_memory_frame :
    let s := { State.reset with h := 0xD0 }
    (∀ b ∈ (Form.actsAs (.ldMemHlReg .a) s).stores s, ∀ k, cellOf 0xD001 = some k → cellOf b ≠ some k) ∧
    (∀ b ∈ (Form.actsAs (.ldMemHlReg .a) s).stores s, ∀ k, cellOf 0x0000 = some k → cellOf b ≠ some k) ∧
    (∀ b ∈ (Form.actsAs (.ldMemHlReg .a) s).stores s, b.toNat ≠ bootAddr) := by
  intro s
  rw [show (Form.actsAs (.ldMemHlReg .a) s).stores s = [0xD000] from witness_memory_frame_stores]
  refine ⟨?_, ?_, ?_⟩ <;> simp [cellOf, regionOf, bootAddr]
/-- BusReadsByRegion and BusWritesByRegion: the first and the last address of each clause. -/
theorem witness_regions :
    (∀ a ∈ ([0x0000, 0x00FF] : List Word), a.toNat < 0x100) ∧
    (∀ a ∈ ([0x0100, 0x7FFF] : List Word), 0x100 ≤ a.toNat ∧ a.toNat < 0x8000) ∧
    (∀ a ∈ ([0xA000, 0xBFFF] : List Word), 0xA000 ≤ a.toNat ∧ a.toNat < 0xC000) ∧
    (∀ a ∈ ([0xE000, 0xFDFF] : List Word), 0xE000 ≤ a.toNat ∧ a.toNat < 0xFE00) ∧
    (∀ a ∈ ([0xFEA0, 0xFEFF] : List Word), 0xFEA0 ≤ a.toNat ∧ a.toNat < 0xFF00) ∧
    (∀ a ∈ ([0x0000, 0xFE9F, 0xFF00, 0xFFFF] : List Word), a.toNat < 0xFEA0 ∨ 0xFF00 ≤ a.toNat) ∧
    (∀ a ∈ ([0x8000, 0x9FFF, 0xC000, 0xDFFF, 0xFE00, 0xFE9F, 0xFF00, 0xFFFF] : List Word),
      (0x8000 ≤ a.toNat ∧ a.toNat < 0xA000) ∨ (0xC000 ≤ a.toNat ∧ a.toNat < 0xE000) ∨
        (0xFE00 ≤ a.toNat ∧ a.toNat < 0xFEA0) ∨ 0xFF00 ≤ a.toNat) := by simp
/-- BusWritesByRegion's second, third and fourth clause: no cell, a cell, and another address that shares none. -/
theorem witness_writes :
    Memory.wf State.reset.ram ∧ cellOf 0xFEA0 = none ∧ cellOf 0xFF44 ≠ none ∧ regionOf 0x0000 ≠ .unusable ∧
    (∀ k, cellOf 0x0000 = some k → cellOf 0xFF44 ≠ some k) ∧
    (writeByte 0xFF44 0x01 State.reset).bootUnmap = State.reset.bootUnmap :=
  ⟨by decide, by decide, by decide, by decide, by simp [cellOf, regionOf], by decide⟩
/-- EchoMirrorsWorkRam, at both ends of the echo and of the part without one. -/
theorem witness_echo :
    Memory.wf State.reset.ram ∧ (∀ a ∈ ([0xE000, 0xFDFF] : List Word), 0xE000 ≤ a.toNat ∧ a.toNat ≤ 0xFDFF) ∧
      ∀ b ∈ ([0xDE00, 0xDFFF] : List Word), 0xDE00 ≤ b.toNat ∧ b.toNat ≤ 0xDFFF :=
  ⟨by decide, by simp, by simp⟩
/-- WordRoundTrip, at the ends of its ranges. -/
theorem witness_word_round_trip :
    Memory.wf State.reset.ram ∧
    (∀ a ∈ ([0x8000, 0x9FFE, 0xC000, 0xDFFE] : List Word),
      (0x8000 ≤ a.toNat ∧ a.toNat ≤ 0x9FFE) ∨ (0xC000 ≤ a.toNat ∧ a.toNat ≤ 0xDFFE)) ∧
    ∀ a ∈ ([0xA000, 0xBFFE] : List Word), 0xA000 ≤ a.toNat ∧ a.toNat ≤ 0xBFFE :=
  ⟨by decide, by simp, by simp⟩
/-- InterruptDispatch, for bit 0 and for bit 4 below other requests that are not enabled. -/
theorem witness_dispatch :
    let s (ie requests : Byte) : State := ({ State.reset with ime := true } : State).poke 0xFFFF ie |>.poke 0xFF0F requests
    ((s 0x1F 0x1F).runState = .running ∧ (s 0x1F 0x1F).ime = true ∧ (s 0x1F 0x1F).ifReg.getLsbD 0 = true ∧
      (s 0x1F 0x1F).ieReg.getLsbD 0 = true) ∧
    ((s 0x10 0xFF).ifReg.getLsbD 4 = true ∧ (s 0x10 0xFF).ieReg.getLsbD 4 = true ∧
      ∀ j < 4, ((s 0x10 0xFF).ifReg.getLsbD j && (s 0x10 0xFF).ieReg.getLsbD j) = false) := by decide
/-- NoInterruptWithoutRequest: IME clear with a request; IME set with the ignored bits only. -/
theorem witness_no_request :
    let s (ime : Bool) (requests : Byte) : State := ({ State.reset with ime := ime } : State).poke 0xFFFF 0xFF |>.poke 0xFF0F requests
    ((s false 0x1F).runState = .running ∧ (s false 0x1F).ime = false) ∧
    ((s true 0xE0).runState = .running ∧ ∀ k < 5, ((s true 0xE0).ifReg.getLsbD k && (s true 0xE0).ieReg.getLsbD k) = false) := by
  decide
/-- EnableTakesEffectAfterNext. -/
theorem witness_enable_pending :
    let s := { State.reset with imeSched := true }
    s.runState = .running ∧ s.ime = false ∧ s.imeSched = true := by decide
/-- IdlesUntilWoken: HALTED without and with a request, for either value of `HALT_WAKE_NEEDS_IE`, and STOPPED. -/
theorem witness_idle :
    let s (r : RunState) (ie requests : Byte) : State := (({ State.reset with runState := r } : State).poke 0xFF0F requests).poke 0xFFFF ie
    let wakes (needsIe : Bool) (s : State) (k : Nat) : Bool := s.ifReg.getLsbD k && (!needsIe || s.ieReg.getLsbD k)
    ((s .halted 0xFF 0xE0).runState = .halted ∧ ∀ k < 5, wakes false (s .halted 0xFF 0xE0) k = false) ∧
    ((s .halted 0x0F 0x10).runState = .halted ∧ (∀ k < 5, wakes true (s .halted 0x0F 0x10) k = false) ∧
      ∃ k < 5, wakes false (s .halted 0x0F 0x10) k = true) ∧
    (∃ k < 5, wakes true (s .halted 0x10 0x10) k = true) ∧
    (s .stopped 0x00 0x1F).runState = .stopped :=
  ⟨by decide, ⟨by decide, by decide, 4, by decide, by decide⟩, ⟨4, by decide, by decide⟩, by decide⟩
/-- StepReturnsListedCycles and LockStepWithLcd: a step that does not fault, and one that does. -/
theorem witness_cpu_steps :
    (run (code [0x00]) (·.runState) = some .running) ∧ (run (code [0xDD]) (·.runState) = some .faulted) := by decide
/-- OnlyUndefinedBytesFault: not FAULTED before, FAULTED after. -/
theorem witness_faulting_step :
    let s := { code [0xFD] with buttonEvents := [false] }
    s.runState ≠ .faulted ∧ seen (step s) (·.runState) = some .faulted := by decide
/-- ScanlineSchedule, VblankRequest, LcdTouchesNothingElse: the first and the last line. -/
theorem witness_lines :
    Memory.wf State.reset.ram ∧ State.reset.ly.toNat ≤ 153 ∧ Memory.wf (State.reset.poke 0xFF44 153).ram ∧
      (State.reset.poke 0xFF44 153).ly.toNat ≤ 153 := by decide
/-- TileDecode: the first and the last tile that lies in VRAM. -/
theorem witness_tiles :
    ∀ b ∈ ([0x8000, 0x9FF0] : List Word), 0x8000 ≤ b.toNat ∧ b.toNat + 16 ≤ 0xA000 := by simp
/-- FrameStepEnds, at the least and the greatest count it may start from; StepKeepsInvariant. -/
theorem witness_invariant : State.reset.Inv ∧ ({ State.reset with cyclesThisFrame := 70220 } : State).Inv ∧ 70220 % 4 = 0 :=
  ⟨⟨by decide, by decide, by decide, by decide, by decide, by decide, by decide, openCart_header rfl, by decide, by decide, by decide,
      by decide⟩,
   ⟨by decide, by decide, by decide, by decide, by decide, by decide, by decide, openCart_header rfl, by decide, by decide, by decide,
      by decide⟩, by norm_num⟩
/-- LoaderAcceptsExactly, InvariantAtLaunch: there are cartridges of both lengths (R100). -/
theorem witness_cartridge (n : Nat) (hn : n = 32768 ∨ n = 65536) : loadError? (List.replicate n 0x00) = none := by
  have zero (k : Nat) : (List.replicate n (0x00 : Byte)).getD k 0 = 0x00 := by
    rw [List.getD_eq_getElem?_getD, List.getElem?_replicate]; split <;> rfl
  rw [loadError?_eq_none]
  exact ⟨by rwa [List.length_replicate], zero _, .inl (zero _), zero _⟩
/-- LoaderAcceptsExactly: images the loader refuses for their type (R102). -/
theorem witness_refused (n : Nat) (hn : 0x0147 < n) : loadError? ((List.replicate n (0x00 : Byte)).set 0x0147 0x01) ≠ none := by
  rw [Ne, loadError?_eq_none, List.getD_eq_getElem?_getD, List.getElem?_set_self (by rwa [List.length_replicate])]
  exact fun h => absurd h.2.1 (by decide)
/-- LoaderAcceptsExactly's window: its first and last address, and both sides of the overlay's end. -/
theorem witness_window : ∀ a ∈ ([0x0000, 0x00FF, 0x0100, 0x7FFF] : List Word), a.toNat < 0x8000 := by simp
/-- StepKeepsInvariant and StepNeverUndoes: a step from such a state, with the overlay gone before it. -/
theorem witness_step_answers :
    (∃ t, step { code [0x00] with buttonEvents := [false] } = .next t) ∧
      ({ code [0x00] with buttonEvents := [false] } : State).bootUnmap = true := ⟨⟨_, rfl⟩, by decide⟩


end Sys2Proof.Machine
end

section
/-! The family of 10_state.md: what every step and every instruction keeps of the state, and what reset leaves. -/

namespace Sys2Proof.Machine

/-! ## The invariant of the storage and the latch -/

/-- The part of `State.Inv` that a write of storage could break, of a storage and the boot latch. -/
structure StorageInv (m : Memory) (latch : Bool) : Prop where
  wf : Memory.wf m
  addr : ∀ x ∈ m, storageAddr x.1 = true
  ly : (Memory.load m lyAddr).toNat ≤ 153
  boot : (Memory.load m bootAddr).getLsbD 0 = true → latch = true

/-- A write keeps it that leaves LY a line of the frame and whose byte at 0xFF50 agrees with the latch. -/
theorem StorageInv.store {m : Memory} {latch latch' : Bool} (h : StorageInv m latch) {k : Nat} {v : Byte}
    (hk : storageAddr k = true) (hly : k = lyAddr → v.toNat ≤ 153)
    (hboot : k = bootAddr → v.getLsbD 0 = true → latch' = true) (hl : latch = true → latch' = true) :
    StorageInv (Memory.store m k v) latch' where
  wf := Memory.store_wf h.wf k v
  addr x hx := by
    rcases Memory.mem_store hx with hx | ⟨rfl, -⟩
    · exact h.addr x hx
    · exact hk
  ly := by
    rw [Memory.load_store h.wf.1]
    split
    · next e => exact hly e.symm
    · exact h.ly
  boot := by
    rw [Memory.load_store h.wf.1]
    split
    · next e => exact hboot e.symm
    · exact fun hb => hl (h.boot hb)

/-- The latch is never cleared (R33, R93). -/
theorem latchAfter_of_latch {a : Word} {v : Byte} {latch : Bool} (h : latch = true) : latchAfter a v latch = true := by
  rw [latchAfter, h, Bool.true_or]

/-- A CPU write keeps it: LY becomes 0 (R92), and bit 0 written to 0xFF50, which no other address shares, sets the latch (R93). -/
theorem StorageInv.write {m : Memory} {latch : Bool} (h : StorageInv m latch) (a : Word) (v : Byte) :
    StorageInv (storeCell a v m) (latchAfter a v latch) := by
  unfold storeCell
  cases hc : cellOf a with
  | none => exact ⟨h.wf, h.addr, h.ly, fun hb => latchAfter_of_latch (h.boot hb)⟩
  | some k =>
    refine h.store (storageAddr_cellOf hc) (fun e => ?_) (fun e hv => ?_) latchAfter_of_latch
    · rw [writtenByte, if_pos e]; decide
    · have ha : a.toNat = bootAddr := by
        unfold bootAddr at e ⊢
        rcases cellOf_cases hc with hk | ⟨-, -, hk⟩ <;> omega
      rw [writtenByte, if_neg (by rw [e]; decide)] at hv
      rw [latchAfter, decide_eq_true ha, hv, Bool.and_true, Bool.or_true]

/-- So do the writes of an instruction. -/
theorem StorageInv.writeAll (ws : List (Word × Byte)) {s : State} (h : StorageInv s.ram s.bootUnmap) :
    StorageInv (writeAll ws s).ram (writeAll ws s).bootUnmap := by
  induction ws generalizing s with
  | nil => exact h
  | cons x ws ih =>
    refine ih ?_
    rw [writeByte_nf]
    exact h.write x.1 x.2

/-- The next line is a line of the frame (R440). -/
theorem nextLine_le (ly : Byte) : (nextLine ly).toNat ≤ 153 := by
  unfold nextLine
  split
  · decide
  · rw [BitVec.toNat_add, show (1 : Byte).toNat = 1 from rfl]; omega

/-- A scanline writes LY and IF only, and LY stays a line of the frame (R440, R441). -/
theorem StorageInv.lcdLine {s : State} (h : StorageInv s.ram s.bootUnmap) :
    StorageInv (lcdLine s).ram (lcdLine s).bootUnmap := by
  have hl : (Machine.lcdLine s).bootUnmap = s.bootUnmap := by rw [lcdLine_eq]
  have hly : StorageInv (Memory.store s.ram lyAddr (nextLine s.ly)) s.bootUnmap :=
    h.store (by decide) (fun _ => nextLine_le _) (fun e => absurd e (by decide)) id
  rw [lcdLine_ram, hl]
  split
  · exact hly.store (by decide) (fun e => absurd e (by decide)) (fun e => absurd e (by decide)) id
  · exact hly

/-! ## The invariant of the state -/

theorem State.Inv.storage {s : State} (h : s.Inv) : StorageInv s.ram s.bootUnmap := ⟨h.ramWf, h.ramAddr, h.ly, h.latch⟩

/-- The invariant of a state that keeps the images of one that has it: what is left to show. -/
theorem State.Inv.of_images {s t : State} (h : s.Inv) (hb : t.bootRom = s.bootRom) (hc : t.cart = s.cart)
    (hf : t.f &&& 0x0F = 0) (hm : StorageInv t.ram t.bootUnmap) (ha : t.lcdAcc < scanlineCycles)
    (hr : t.runState = .faulted ↔ t.fault.isSome = true) : t.Inv where
  flagsLow := hf
  ramWf := hm.wf
  ramAddr := hm.addr
  bootRomWf := hb ▸ h.bootRomWf
  cartWf := hc ▸ h.cartWf
  bootRomSize := hb ▸ h.bootRomSize
  cartSize := hc ▸ h.cartSize
  cartHeader := by simpa only [State.cartByte, hc] using h.cartHeader
  lcdAcc := ha
  ly := hm.ly
  latch := hm.boot
  faultRecord := hr

/-- Waking the CPU keeps the invariant. -/
theorem State.Inv.woken {s : State} (h : s.Inv) (hr : s.runState ≠ .faulted) : { s with runState := .running }.Inv :=
  h.of_images rfl rfl h.flagsLow h.storage h.lcdAcc (iff_of_false (by simp) fun hf => hr (h.faultRecord.mpr hf))

/-- The state an instruction runs from has the invariant: the pending EI taken into IME, some draws used up. -/
theorem State.Inv.promoted {s : State} (h : s.Inv) (d : Nat) : { promoteEi s with draws := d }.Inv := by
  rw [promoteEi_eq]
  exact h.of_images rfl rfl h.flagsLow h.storage h.lcdAcc h.faultRecord

/-- The host's input of a step is no part of the invariant. -/
theorem State.Inv.takeButton {s : State} (h : s.Inv) : (takeButton s).2.Inv := by
  rw [takeButton_snd]
  exact h.of_images rfl rfl h.flagsLow h.storage h.lcdAcc h.faultRecord

/-- Taking an interrupt keeps the invariant: IF, IME and the stack are written (R420). -/
theorem State.Inv.takeInterrupt {s : State} (h : s.Inv) (k : Nat) : (takeInterrupt k s).Inv := by
  rw [takeInterrupt_nf]
  refine h.of_images rfl rfl h.flagsLow (StorageInv.write (StorageInv.write ?_ _ _) _ _) h.lcdAcc h.faultRecord
  exact h.storage.store (by decide) (fun e => absurd e (by decide)) (fun e => absurd e (by decide)) id

/-- An instruction keeps the invariant: the record is set by the undefined bytes only, which alone lead into FAULTED (R410). -/
theorem Effect.inv {f : Form} {s t : State} (e : Effect f s t) (h : s.Inv) (hr : s.runState ≠ .faulted) : t.Inv := by
  have hm : StorageInv t.ram t.bootUnmap := by rw [e.ram, e.bootUnmap]; exact h.storage.writeAll _
  refine h.of_images e.bootRom e.cart (e.flagsLow h.flagsLow) hm (e.lcdAcc ▸ h.lcdAcc) ?_
  rw [e.run]
  by_cases hu : ∃ u, f = .undefined u
  · refine iff_of_true ?_ (e.faultSet hu)
    obtain ⟨u, rfl⟩ := hu
    rfl
  · rw [e.faultKept fun u hf => hu ⟨u, hf⟩]
    exact iff_of_false (fun hf => hu (runAfter_faulted hf hr)) fun hf => hr (h.faultRecord.mpr hf)

/-- The LCD controller keeps the invariant (R440). -/
theorem State.Inv.lcdStep {s : State} (h : s.Inv) (n : Nat) : (lcdStep n s).Inv := by
  have hm : StorageInv (Machine.lcdStep n s).ram (Machine.lcdStep n s).bootUnmap :=
    lcdLines_induct (P := fun s => StorageInv s.ram s.bootUnmap) (fun _ hl => hl.lcdLine) _ _ h.storage
  rw [lcdStep_eq] at hm ⊢
  exact h.of_images rfl rfl h.flagsLow hm (Nat.mod_lt _ (by decide)) h.faultRecord

/-- The CPU step keeps the invariant, whatever it does. -/
theorem State.Inv.cpuStep {ie b : Bool} {s t : State} (h : s.Inv) (ht : cpuStep ie b s = .next t) : t.Inv := by
  cases cpuStep_move ht with
  | idle _ ht => rw [ht]; exact h.of_images rfl rfl h.flagsLow h.storage h.lcdAcc h.faultRecord
  | interrupt k _ hr ht => rw [ht]; exact (h.woken hr).takeInterrupt k
  | ran hr ht =>
    obtain ⟨f, d, u, hu, -, e, -⟩ := runInstruction_effect { s with runState := .running }
    obtain rfl : t = u := Host.Outcome.next.inj (ht.symm.trans hu)
    refine e.inv ((h.woken hr).promoted d) ?_
    rw [promoteEi_eq]; simp

/-! ## What a system step does -/

/-- A system step is the CPU step, and then the LCD controller's, or not after a faulting step (R450). -/
theorem systemStep_move {ie b : Bool} {s t : State} (ht : systemStep ie b s = .next t) :
    ∃ u, cpuStep ie b s = .next u ∧ (t = u ∨ t = lcdStep (u.cycleCounter - s.cycleCounter) u) := by
  unfold systemStep at ht
  split at ht
  · next u hu =>
    refine ⟨u, hu, ?_⟩
    split at ht
    · exact .inl (Host.Outcome.next.inj ht).symm
    all_goals exact .inr (Host.Outcome.next.inj ht).symm
  · cases ht
  · cases ht

theorem State.Inv.machineStep {ie : Bool} {s t : State} (h : s.Inv) (ht : machineStep ie s = .next t) : t.Inv := by
  rw [machineStep_eq] at ht
  obtain ⟨u, hu, rfl | rfl⟩ := systemStep_move ht
  · exact h.takeButton.cpuStep hu
  · exact (h.takeButton.cpuStep hu).lcdStep _

/-- Settles O59: each thing a step is made of keeps the invariant: taking the input, the three moves of the CPU, the LCD step. -/
theorem stepKeepsInvariant : Obligations.StepKeepsInvariant :=
  fun _ _ h => ⟨fun ht => h.machineStep ht, fun _ ht => h.machineStep ht⟩

/-! ## What no step undoes -/

/-- From `s` to `t` the latch was not cleared, the images are the same and no cycles were taken back. -/
structure Onward (s t : State) : Prop where
  latch : s.bootUnmap = true → t.bootUnmap = true
  bootRom : t.bootRom = s.bootRom
  cart : t.cart = s.cart
  cycles : s.cycleCounter ≤ t.cycleCounter

theorem Onward.trans {s t u : State} (h : Onward s t) (h' : Onward t u) : Onward s u :=
  ⟨fun hs => h'.latch (h.latch hs), h'.bootRom.trans h.bootRom, h'.cart.trans h.cart, h.cycles.trans h'.cycles⟩

theorem writeAll_latch (ws : List (Word × Byte)) {s : State} (h : s.bootUnmap = true) : (writeAll ws s).bootUnmap = true := by
  induction ws generalizing s with
  | nil => exact h
  | cons x ws ih => exact ih (by rw [writeByte_nf]; exact latchAfter_of_latch h)

theorem Effect.onward {f : Form} {s t : State} (e : Effect f s t) : Onward s t :=
  ⟨fun h => e.bootUnmap.trans (writeAll_latch _ h), e.bootRom, e.cart, e.cycles ▸ Nat.le_add_right _ _⟩

theorem lcdStep_onward (n : Nat) (s : State) : Onward s (lcdStep n s) := by
  rw [lcdStep_eq]
  exact ⟨id, rfl, rfl, le_rfl⟩

theorem cpuStep_onward {ie b : Bool} {s t : State} (ht : cpuStep ie b s = .next t) : Onward s t := by
  cases cpuStep_move ht with
  | idle _ ht => rw [ht]; exact ⟨id, rfl, rfl, Nat.le_add_right _ _⟩
  | interrupt k _ _ ht =>
    rw [ht, takeInterrupt_nf]
    exact ⟨fun h => latchAfter_of_latch (latchAfter_of_latch h), rfl, rfl, Nat.le_add_right _ _⟩
  | ran _ ht =>
    obtain ⟨f, d, u, hu, -, e, -⟩ := runInstruction_effect { s with runState := .running }
    obtain rfl : t = u := Host.Outcome.next.inj (ht.symm.trans hu)
    refine Onward.trans ?_ e.onward
    rw [promoteEi_eq]
    exact ⟨id, rfl, rfl, le_rfl⟩

/-- Settles O60: each thing a step is made of leads onward, and `Onward` is transitive. -/
theorem stepNeverUndoes : Obligations.StepNeverUndoes := by
  intro s t ht
  rw [step_eq] at ht
  have input : Onward s (takeButton s).2 := by rw [takeButton_snd]; exact ⟨id, rfl, rfl, le_rfl⟩
  have onward : Onward s t := by
    obtain ⟨u, hu, rfl | rfl⟩ := systemStep_move ht
    · exact input.trans (cpuStep_onward hu)
    · exact (input.trans (cpuStep_onward hu)).trans (lcdStep_onward _ u)
  exact ⟨onward.latch, onward.bootRom, onward.cart, onward.cycles⟩

/-! ## What an instruction leaves unchanged -/

/-- The effect of a row that answers, from the state in which one more byte has been read: the one after a bare 0xCB, or one
whose read changes nothing (R131, R94). -/
theorem effect_of_exec {f : Form} {s t : State} (ht : exec f.row s = .next t) : ∃ a, Effect (f.actsAs s) (s.touch a) t := by
  obtain ⟨u, hu, e⟩ := exec_effect f s
  obtain rfl : t = u := Host.Outcome.next.inj (ht.symm.trans hu)
  split at e
  · exact ⟨s.pc + 1, e⟩
  · exact ⟨0, by rwa [State.touch_of_usable s (by decide)]⟩

theorem State.touch_reg (s : State) (a : Word) (r : Reg) : (s.touch a).reg r = s.reg r := by
  rw [State.touch_eq]; cases r <;> rfl

theorem State.touch_flag (s : State) (a : Word) (fl : Flag) : (s.touch a).flag fl = s.flag fl := by
  rw [State.touch_eq]; cases fl <;> rfl

/-- Settles O33: the registers and SP of the form's effect. -/
theorem registerFrame : Obligations.RegisterFrame := by
  intro f s t ht
  obtain ⟨a, e⟩ := effect_of_exec ht
  exact ⟨fun r hr => (e.regs r hr).trans (s.touch_reg a r), e.sp.trans (spAfter_touch _ s a)⟩

/-- Settles O34: the flags of the form's effect. -/
theorem flagFrame : Obligations.FlagFrame := by
  intro f s t ht
  obtain ⟨a, e⟩ := effect_of_exec ht
  have hf : (s.touch a).f = s.f := s.touch_f a
  refine ⟨fun fl => ?_, hf ▸ e.flagsLow, fun h => ?_⟩
  · have hfl := e.flag fl
    rw [s.touch_flag a fl] at hfl
    exact hfl
  · exact (e.flagsKept (Prod.ext (h .z) (Prod.ext (h .n) (Prod.ext (h .h) (h .c))))).trans hf

/-- Settles O35: the control state of the form's effect. -/
theorem controlStateFrame : Obligations.ControlStateFrame := by
  intro f s t ht
  obtain ⟨a, e⟩ := effect_of_exec ht
  refine ⟨e.ime.trans (imeAfter_touch _ s a), e.run.trans (runAfter_touch _ s a),
    fun hu => (e.faultKept hu).trans (s.touch_fault a), ?_⟩
  exact ⟨e.bootRom.trans (s.touch_bootRom a), e.cart.trans (s.touch_cart a), e.lcdAcc.trans (s.touch_lcdAcc a),
    e.frameReady.trans (s.touch_frameReady a), e.cyclesThisFrame.trans (s.touch_cyclesThisFrame a),
    e.buttonEvents.trans (s.touch_buttonEvents a), e.ticks.trans (s.touch_ticks a)⟩

/-! ## Reset -/

/-- Settles O55: reset lists no byte of the boot ROM, so the one at 0x0000 is the parameter's. -/
theorem resetZeroesRegisters : Obligations.ResetZeroesRegisters := by
  intro ramInit
  have regs : ∀ r : Reg, (State.resetWith ramInit).reg r = 0 := fun r => by cases r <;> rfl
  exact ⟨regs, rfl, rfl, rfl, rfl, rfl⟩

/-- Settles O56: RAM is what `ramFrom` makes of `RAM_INIT`, zero elsewhere; the rest are the fields of `State.reset`. -/
theorem resetClearsTheRest : Obligations.ResetClearsTheRest := by
  refine ⟨fun ramInit s => ⟨rfl, rfl, rfl, rfl, rfl, rfl, rfl, rfl, fun k hk => ?_, rfl, rfl, rfl⟩, fun contents => ?_, rfl,
    Memory.load_nil⟩
  · exact load_ramFrom_of_not hk
  · exact exists_ramInit contents

end Sys2Proof.Machine
end

section
/-! The family of 20_memory.md: what the bus reads and writes region by region, the echo, words, what an instruction and the LCD
controller leave of memory, and the loader. -/

namespace Sys2Proof.Machine

/-! ## The regions as ranges (R75) -/

/-- The first address of a region (R75). -/
def Region.first : Region → Nat
  | .overlay => 0x0000 | .rom => 0x0100 | .video => 0x8000 | .external => 0xA000 | .work => 0xC000 | .echo => 0xE000
  | .oam => 0xFE00 | .unusable => 0xFEA0 | .io => 0xFF00 | .high => 0xFF80 | .enable => 0xFFFF

/-- The address after the last one of a region (R75). -/
def Region.limit : Region → Nat
  | .overlay => 0x0100 | .rom => 0x8000 | .video => 0xA000 | .external => 0xC000 | .work => 0xE000 | .echo => 0xFE00
  | .oam => 0xFEA0 | .unusable => 0xFF00 | .io => 0xFF80 | .high => 0xFFFF | .enable => 0x10000

/-- An address lies within the range of its region. -/
theorem regionOf_range (a : Word) : (regionOf a).first ≤ a.toNat ∧ a.toNat < (regionOf a).limit := by
  have hb := regionOf_bounds a
  cases hr : regionOf a <;> rw [hr] at hb <;> dsimp only [Region.first, Region.limit] at hb ⊢ <;> omega

/-- The ranges of two regions do not overlap. -/
theorem Region.eq_or_disjoint (r q : Region) : r = q ∨ r.limit ≤ q.first ∨ q.limit ≤ r.first := by
  cases r <;> cases q <;> decide

/-- The region of an address is the one whose range holds it. -/
theorem regionOf_of_range (r : Region) {a : Word} (h : r.first ≤ a.toNat ∧ a.toNat < r.limit) : regionOf a = r := by
  have ha := regionOf_range a
  rcases Region.eq_or_disjoint (regionOf a) r with e | hd
  · exact e
  · omega

/-! ## The cell behind an address (R36, R81) -/

/-- ROM, the external window and the gap have no cell, every other address has one. -/
theorem cellOf_eq_none_iff (a : Word) :
    cellOf a = none ↔ a.toNat < 0x8000 ∨ (0xA000 ≤ a.toNat ∧ a.toNat < 0xC000) ∨ (0xFEA0 ≤ a.toNat ∧ a.toNat < 0xFF00) := by
  have hb := regionOf_bounds a
  unfold cellOf
  cases hr : regionOf a <;> rw [hr] at hb <;> dsimp only at hb ⊢
  case overlay | rom | external | unusable => exact iff_of_true rfl (by omega)
  all_goals exact iff_of_false (by simp) (by omega)

/-- Storage that no other address mirrors is its own cell. -/
theorem cellOf_self {a : Word} (h : (0x8000 ≤ a.toNat ∧ a.toNat < 0xA000) ∨ (0xC000 ≤ a.toNat ∧ a.toNat < 0xE000) ∨
    (0xFE00 ≤ a.toNat ∧ a.toNat < 0xFEA0) ∨ 0xFF00 ≤ a.toNat) : cellOf a = some a.toNat := by
  cases hc : cellOf a with
  | none => have := (cellOf_eq_none_iff a).mp hc; omega
  | some k =>
    rcases cellOf_cases hc with hk | hk
    · rw [hk]
    · omega

/-- The cell of an echo address is the work RAM cell 0x2000 lower (R81). -/
theorem cellOf_echo {a : Word} (h : 0xE000 ≤ a.toNat ∧ a.toNat < 0xFE00) : cellOf a = some (a.toNat - 0x2000) := by
  rw [cellOf, regionOf_of_range .echo h]

/-- The work RAM address 0x2000 below an echo address. -/
theorem toNat_sub_echo {a : Word} (h : 0xE000 ≤ a.toNat) : (a - 0x2000).toNat = a.toNat - 0x2000 := by bv_omega

/-- An echo address and the work RAM address 0x2000 lower have one cell (R81). -/
theorem cellOf_sub_echo {a : Word} (h : 0xE000 ≤ a.toNat ∧ a.toNat < 0xFE00) :
    cellOf (a - 0x2000) = some (a.toNat - 0x2000) := by
  have ha := toNat_sub_echo h.1
  rw [cellOf_self (by omega), ha]

/-! ## Reads by region (R75 to R86) -/

theorem State.peek_overlay (s : State) {a : Word} (h : a.toNat < 0x100) :
    s.peek a = if s.bootUnmap then s.cartByte a.toNat else s.bootByte a.toNat := by
  rw [State.peek, regionOf_of_range .overlay ⟨Nat.zero_le _, h⟩]

theorem State.peek_rom (s : State) {a : Word} (h : 0x100 ≤ a.toNat ∧ a.toNat < 0x8000) : s.peek a = s.cartByte a.toNat := by
  rw [State.peek, regionOf_of_range .rom h]

theorem State.peek_external (s : State) {a : Word} (h : 0xA000 ≤ a.toNat ∧ a.toNat < 0xC000) : s.peek a = 0xFF := by
  rw [State.peek, regionOf_of_range .external h]

theorem State.peek_unusable (s : State) {a : Word} (h : 0xFEA0 ≤ a.toNat ∧ a.toNat < 0xFF00) :
    s.peek a = Config.unusableRead s.draws := by
  rw [State.peek, regionOf_of_range .unusable h]

/-- A read in the gap uses up one draw (R83; log 7). -/
theorem State.touch_unusable (s : State) {a : Word} (h : 0xFEA0 ≤ a.toNat ∧ a.toNat < 0xFF00) :
    s.touch a = { s with draws := s.draws + 1 } := by
  rw [State.touch, regionOf_of_range .unusable h]

theorem regionOf_ne_unusable {a : Word} (h : a.toNat < 0xFEA0 ∨ 0xFF00 ≤ a.toNat) : regionOf a ≠ .unusable := by
  intro hr
  have hb := regionOf_bounds a
  rw [hr] at hb
  dsimp only at hb
  omega

/-- Settles O38: the clauses are the regions, an echo address reading its work RAM cell. -/
theorem busReadsByRegion : Obligations.BusReadsByRegion := by
  intro s a
  refine ⟨s.peek_overlay, s.peek_rom, s.peek_external, fun h => ?_, fun h => State.peek_of_cell (cellOf_self h), fun h => ?_,
    fun h => ?_⟩
  · rw [State.peek_of_cell (cellOf_echo h), State.peek_of_cell (cellOf_sub_echo h)]
  · exact ⟨s.peek_unusable h, Prod.ext (s.peek_unusable h) (s.touch_unusable h)⟩
  · exact Prod.ext rfl (s.touch_of_usable (regionOf_ne_unusable h))

/-! ## Writes by region (R75 to R93) -/

/-- The only cell at one of the registers with a write effect is that of its own address. -/
theorem cellOf_eq_io {a : Word} {k : Nat} (hc : cellOf a = some k) (hk : 0xFF00 ≤ k) : a.toNat = k := by
  rcases cellOf_cases hc with h | h <;> omega

/-- A write to an address without a cell is discarded (R77, R79, R83). -/
theorem writeByte_of_no_cell {a : Word} (h : cellOf a = none) (v : Byte) (s : State) : writeByte a v s = s := by
  have hb : a.toNat ≠ bootAddr := by
    have := (cellOf_eq_none_iff a).mp h
    unfold bootAddr
    omega
  rw [writeByte_nf, storeCell, h, latchAfter, decide_eq_false hb, Bool.false_and, Bool.or_false]

/-- A write is read back at every address of its cell, as the byte the cell takes. -/
theorem State.peek_writeByte_same {s : State} (hm : Memory.wf s.ram) {a b : Word} {k : Nat} (ha : cellOf a = some k)
    (hb : cellOf b = some k) (v : Byte) : (writeByte a v s).peek b = writtenByte k v := by
  rw [State.peek_of_cell hb, writeByte_ram, ha]
  exact (Memory.load_store hm.1 k k _).trans (if_pos rfl)

/-- A CPU write leaves 0x00 at LY and the byte itself at every other cell (R92). -/
theorem writtenByte_of_cell {a : Word} {k : Nat} (ha : cellOf a = some k) (v : Byte) :
    writtenByte k v = if a.toNat = 0xFF44 then 0x00 else v := by
  have hly : k = lyAddr ↔ a.toNat = 0xFF44 := by
    unfold lyAddr
    rcases cellOf_cases ha with h | h <;> omega
  simp only [writtenByte, hly]

/-- Settles O39: with no cell the write is discarded, else it is read back from the cell; the rest is the frame and the latch of a
write. -/
theorem busWritesByRegion : Obligations.BusWritesByRegion := by
  intro s a v hm
  refine ⟨cellOf_eq_none_iff a, fun h => writeByte_of_no_cell h v s, fun h => ?_,
    fun b _ hb hl => State.peek_writeByte hm a b v hb hl, writeByte_bootUnmap a v s⟩
  obtain ⟨k, ha⟩ := Option.ne_none_iff_exists'.mp h
  rw [State.peek_writeByte_same hm ha ha, writtenByte_of_cell ha]

/-! ## The echo and words (R72, R73, R81, R96) -/

/-- A write outside the I/O range is read back as it is at every address of its cell. -/
theorem State.peek_writeByte_memory {s : State} (hm : Memory.wf s.ram) {a b : Word} {k : Nat} (ha : cellOf a = some k)
    (hb : cellOf b = some k) (hk : k < 0xFF00) (v : Byte) : (writeByte a v s).peek b = v := by
  rw [State.peek_writeByte_same hm ha hb, writtenByte, if_neg (by unfold lyAddr; omega)]

/-- Settles O40: the two addresses have one cell, below that of any address without an echo. -/
theorem echoMirrorsWorkRam : Obligations.EchoMirrorsWorkRam := by
  intro s a v hm h1 h2
  have he : cellOf a = some (a.toNat - 0x2000) := cellOf_echo ⟨h1, by omega⟩
  have hw : cellOf (a - 0x2000) = some (a.toNat - 0x2000) := cellOf_sub_echo ⟨h1, by omega⟩
  have hk : a.toNat - 0x2000 < 0xFF00 := by omega
  refine ⟨State.peek_writeByte_memory hm he hw hk v, State.peek_writeByte_memory hm hw he hk v,
    State.peek_writeByte_memory hm he he hk v, State.peek_writeByte_memory hm hw hw hk v, fun b hb1 hb2 => ?_⟩
  refine State.peek_writeByte hm b a v (fun k hak hbk => ?_) (fun ha => by omega)
  rw [he] at hak
  rw [cellOf_self (by omega)] at hbk
  have := Option.some.inj hak
  have := Option.some.inj hbk
  omega

/-- A word written over two cells of their own, outside the I/O range, is there byte by byte (R73). -/
theorem writeWord_peek {s : State} (hm : Memory.wf s.ram) {a : Word} (w : Word) {j k : Nat} (ha : cellOf a = some j)
    (hb : cellOf (a + 1) = some k) (hne : j ≠ k) (hj : j < 0xFF00) (hk : k < 0xFF00) :
    (writeWord a w s).peek a = loByte w ∧ (writeWord a w s).peek (a + 1) = hiByte w := by
  have hm' := writeByte_ram_wf hm a (loByte w)
  refine ⟨?_, State.peek_writeByte_memory hm' hb hb hk _⟩
  refine (State.peek_writeByte hm' (a + 1) a _ ?_ fun hlow => ?_).trans (State.peek_writeByte_memory hm ha ha hj _)
  · intro i hi hbi
    rw [ha] at hi
    rw [hb] at hbi
    exact hne (Option.some.inj (hi.trans hbi.symm))
  · have := (cellOf_eq_none_iff a).mpr (.inl (by omega))
    rw [ha] at this
    cases this

/-- A word read where the read of its low byte changes nothing (R72). -/
theorem readWord_fst (s : State) {a : Word} (h : a.toNat < 0xFEA0 ∨ 0xFF00 ≤ a.toNat) :
    (readWord a s).1 = wordOf (s.peek (a + 1)) (s.peek a) := by
  rw [readWord, readByte, s.touch_of_usable (regionOf_ne_unusable h)]
  rfl

/-- Settles O41: the two bytes have cells of their own in video and work RAM, and none in the external window. -/
theorem wordRoundTrip : Obligations.WordRoundTrip := by
  intro s a w hm
  have succ : a.toNat ≤ 0xDFFE → (a + 1).toNat = a.toNat + 1 := fun _ => by bv_omega
  constructor
  · intro h
    have hn := succ (by omega)
    obtain ⟨hlo, hhi⟩ := writeWord_peek hm w (cellOf_self (a := a) (by omega)) (cellOf_self (a := a + 1) (by omega)) (by omega)
      (by omega) (by omega)
    refine ⟨?_, hlo, hhi⟩
    rw [readWord_fst _ (by omega), hlo, hhi, wordOf_hiByte_loByte]
  · intro h
    have hn := succ (by omega)
    rw [readWord_fst _ (by omega), State.peek_external _ (by omega), State.peek_external _ (by omega)]
    decide

/-! ## What an instruction leaves of memory (R95) -/

/-- Settles O36: an instruction changes storage and latch by its writes only, whose addresses are those the form stores to. -/
theorem memoryFrame : Obligations.MemoryFrame := by
  intro f s t hm ht x hx hcell hboot
  obtain ⟨b, e⟩ := effect_of_exec ht
  have stored : ∀ w ∈ writesOf (f.actsAs s) (s.touch b), w.1 ∈ (f.actsAs s).stores s := by
    intro w hw
    rw [← stores_touch _ s b, ← writesOf_stores]
    exact List.mem_map_of_mem hw
  refine State.peek_congr (fun hlow => ?_) (e.bootRom.trans (s.touch_bootRom b)) (e.cart.trans (s.touch_cart b)) (fun k hk => ?_)
    (.inr hx)
  · rw [e.bootUnmap, writeAll_bootUnmap _ _ fun w hw => hboot hlow _ (stored w hw), s.touch_bootUnmap]
  · have hm' : Memory.wf (s.touch b).ram := (s.touch_ram b).symm ▸ hm
    rw [e.ram, (writeAll_load _ hm' fun w hw => hcell _ (stored w hw) k hk).2, s.touch_ram]

/-! ## What the LCD controller leaves of memory (R106) -/

/-- `LcdStep` keeps every storage byte but LY and IF. -/
theorem lcdStep_load (n : Nat) {s : State} (hm : Memory.wf s.ram) {k : Nat} (h1 : k ≠ lyAddr) (h2 : k ≠ ifAddr) :
    Memory.load (lcdStep n s).ram k = Memory.load s.ram k :=
  lcdLines_load (s := { s with lcdAcc := (s.lcdAcc + n) % 456 }) _ hm h1 h2

/-- `LcdStep` keeps IF but for bit 0 (R441). -/
theorem lcdStep_ifReg (n : Nat) {s : State} (hm : Memory.wf s.ram) {k : Nat} (hk : 0 < k) :
    (lcdStep n s).ifReg.getLsbD k = s.ifReg.getLsbD k :=
  lcdLines_ifReg (s := { s with lcdAcc := (s.lcdAcc + n) % 456 }) _ hm hk

/-- A read of 0xFF0F returns IF (R37). -/
theorem State.peek_if (s : State) : s.peek 0xFF0F = s.ifReg := State.peek_of_cell (cellOf_self (by decide))

/-- Settles O50: LY and IF are the only cells an LCD step writes, and no other address shares them. -/
theorem lcdTouchesNothingElse : Obligations.LcdTouchesNothingElse := by
  intro n s hm
  have step := lcdStep_eq n s
  refine ⟨fun a hly hif => ?_, fun k hk => ?_, ?_⟩
  · refine State.peek_congr (fun _ => by rw [step]) (by rw [step]) (by rw [step]) (fun k hk => ?_) (.inl (by rw [step]))
    refine lcdStep_load n hm ?_ ?_
    · rintro rfl; exact hly (cellOf_eq_io hk (by decide))
    · rintro rfl; exact hif (cellOf_eq_io hk (by decide))
  · rw [State.peek_if, State.peek_if]
    exact lcdStep_ifReg n hm hk
  · have acc : (lcdStep n s).lcdAcc = (s.lcdAcc + n) % 456 := congrArg State.lcdAcc step
    rw [acc]
    exact step

/-! ## The loader and the bytes on the bus (R100, R102, R103) -/

/-- The loader gives a cartridge for an image exactly when its verdict is no error. -/
theorem loadCartridge_isOk_iff (bytes : List Byte) : (∃ cart, loadCartridge bytes = .ok cart) ↔ loadError? bytes = none := by
  simp only [loadCartridge_eq_ok]
  exact ⟨fun ⟨cart, h⟩ => h ▸ cart.accepted, fun h => ⟨⟨bytes, h⟩, rfl⟩⟩

/-- A boot ROM that was loaded is on the bus byte by byte. -/
theorem BootRom.byte_image (bootRom : BootRom) {s : State} (hs : s.bootRom = imageFrom 0 bootRom.toList) {k : Nat}
    (hk : k < 0x100) : s.bootByte k = bootRom.toList.getD k 0 := by
  have hf := find?_imageFrom 0 k bootRom.toList
  rw [Nat.zero_add] at hf
  rw [State.bootByte, hs, hf, List.getD_eq_getElem?_getD, List.getElem?_eq_getElem (by simpa using hk)]
  rfl

/-- Settles O57: the loader's verdict, and reads of the overlay and of ROM in the two launch states. -/
theorem loaderAcceptsExactly : Obligations.LoaderAcceptsExactly := by
  refine ⟨fun bytes => ⟨(loadCartridge_isOk_iff bytes).trans (loadError?_eq_none bytes),
    fun cart => (loadCartridge_eq_ok bytes cart).mp⟩, fun cart a ha => ⟨fun left => ?_, fun ramInit bootRom => ?_⟩⟩
  · rw [← cart.byte_image (State.postBoot_cart left cart) ha]
    by_cases hlow : a.toNat < 0x100
    · rw [State.peek_overlay _ hlow, State.postBoot_bootUnmap, if_pos rfl]
    · exact State.peek_rom _ ⟨by omega, ha⟩
  · split
    · next hlow =>
      have latch : (State.cold ramInit bootRom cart).bootUnmap = false := rfl
      rw [State.peek_overlay _ hlow, latch, if_neg Bool.false_ne_true, bootRom.byte_image (State.cold_bootRom ..) hlow]
    · next hlow => rw [State.peek_rom _ ⟨by omega, ha⟩, cart.byte_image (State.cold_cart ..) ha]

end Sys2Proof.Machine
end

section
/-! The family of 30_encoding.md: which bytes decode to what, and the bare prefix row. -/

namespace Sys2Proof.Machine

/-! ## What decodes (R120, R131, R135) -/

/-- Whatever decodes begins with the encoding of what it decodes to (R120, R122). -/
theorem encode_append_of_decode {bytes rest : List Byte} {i : Instr} (h : decode bytes = .ok (i, rest)) :
    encode i ++ rest = bytes := by
  obtain _ | ⟨b, bytes⟩ := bytes
  · cases h
  have enc := slotOf_encodes b
  unfold decode at h
  dsimp only at h
  cases hs : slotOf b with rw [hs] at h enc
  | op j => cases h; exact congrArg (· ++ rest) enc
  | byte f =>
    obtain _ | ⟨n, bytes⟩ := bytes <;> cases h
    exact congrArg (· ++ rest) (enc n)
  | word f =>
    obtain _ | ⟨lo, _ | ⟨hi, bytes⟩⟩ := bytes <;> cases h
    rw [enc, loByte_wordOf, hiByte_wordOf]; rfl
  | second =>
    obtain rfl : b = 0xCB := enc
    obtain _ | ⟨b2, bytes⟩ := bytes <;> cases h
    · rfl
    · exact congrArg (· ++ rest) (cbInstr_encodes b2).1

/-- No first byte calls for more than two bytes after it (R120, R135). -/
theorem exists_decode_of_three (b n m : Byte) (rest : List Byte) : ∃ i tail, decode (b :: n :: m :: rest) = .ok (i, tail) := by
  rw [decode]
  cases slotOf b with
  | op i => exact ⟨i, _, rfl⟩
  | byte f => exact ⟨f n, _, rfl⟩
  | word f => exact ⟨f (wordOf m n), _, rfl⟩
  | second => exact ⟨cbInstr n, _, rfl⟩

/-- 0xCB and a second byte decode to the second page's row (R131, R133). -/
theorem decode_second (b : Byte) (rest : List Byte) : decode (0xCB :: b :: rest) = .ok (cbInstr b, rest) := rfl

/-! ## The undefined rows (R140) -/

theorem encode_undefined (u : Undefined) : encode (Form.undefined u).row = [u.byte] := by cases u <;> rfl

/-- An undefined byte is a whole encoding, of its own row of the table (R135, R355). -/
theorem decode_undefined (u : Undefined) (rest : List Byte) : decode (u.byte :: rest) = .ok ((Form.undefined u).row, rest) := by
  cases u <;> rfl

/-- The eleven bytes of R140 are those of `Undefined`. -/
theorem mem_undefined_bytes (b : Byte) :
    b ∈ ([0xD3, 0xDB, 0xDD, 0xE3, 0xE4, 0xEB, 0xEC, 0xED, 0xF4, 0xFC, 0xFD] : List Byte) ↔ ∃ u : Undefined, b = u.byte := by
  change b ∈ List.map Undefined.byte [.xD3, .xDB, .xDD, .xE3, .xE4, .xEB, .xEC, .xED, .xF4, .xFC, .xFD] ↔ _
  constructor
  · intro h
    obtain ⟨u, -, rfl⟩ := List.mem_map.mp h
    exact ⟨u, rfl⟩
  · rintro ⟨u, rfl⟩
    exact List.mem_map_of_mem (by cases u <;> decide)

/-- A list decodes to an undefined row exactly when its first byte is undefined. -/
theorem decode_eq_undefined_iff {b : Byte} {bytes tail : List Byte} {i : Instr} (h : decode (b :: bytes) = .ok (i, tail)) :
    (∃ u : Undefined, i = (Form.undefined u).row) ↔ ∃ u : Undefined, b = u.byte := by
  constructor
  · rintro ⟨u, rfl⟩
    have e := encode_append_of_decode h
    rw [encode_undefined] at e
    exact ⟨u, (List.cons.inj e).1.symm⟩
  · rintro ⟨u, rfl⟩
    rw [decode_undefined] at h
    exact ⟨u, (Prod.ext_iff.mp (Except.ok.inj h)).1.symm⟩

/-- No row of the second page is undefined: its encoding has two bytes (R133, R135). -/
theorem cbInstr_ne_undefined (b : Byte) (u : Undefined) : cbInstr b ≠ (Form.undefined u).row := by
  intro h
  have e := (cbInstr_encodes b).1
  rw [h, encode_undefined] at e
  simp at e

/-- Settles O3: three bytes are enough for any first byte, and the undefined rows are the one-byte rows of the eleven bytes. -/
theorem everyFirstByteDecodes : Obligations.EveryFirstByteDecodes := by
  refine ⟨fun b n m rest => ?_, fun b rest => ?_⟩
  · obtain ⟨i, tail, h⟩ := exists_decode_of_three b n m rest
    exact ⟨i, tail, h, (decode_eq_undefined_iff h).trans (mem_undefined_bytes b).symm⟩
  · exact ⟨cbInstr b, decode_second b rest, (cbInstr_encodes b).2, cbInstr_ne_undefined b⟩

/-! ## The bare prefix and the spec's words (R130 to R133) -/

/-- Settles O5: the second byte's rule is its row's meaning, and every row answers a next state. -/
theorem prefixActsAsSecondPage : Obligations.PrefixActsAsSecondPage := by
  intro s
  obtain ⟨t, ht, -⟩ := exec_effect .prefixCb s
  have acts : exec .prefixCb s = exec (cbInstr (s.peek (s.pc + 1))) (s.touch (s.pc + 1)) := cbRule_eq _ _
  exact ⟨t, ht, acts.symm.trans ht⟩

/-- Settles O4: each of the ten words by evaluation of the decoder. -/
theorem writtenOutWordsDecode : Obligations.WrittenOutWordsDecode :=
  ⟨rfl, rfl, rfl, rfl, rfl, rfl, rfl, rfl, rfl, rfl⟩

end Sys2Proof.Machine
end

section
/-! The family of 40_ld8.md: the 8-bit loads between registers, from memory and to memory. -/

namespace Sys2Proof.Machine

/-! ## An access and the bytes and cycles of its instruction

The meaning of a row moves PC first and counts the cycles last (`retire`), where a statement speaks of the state before: an
access neither sees PC or the cycle count nor changes them. -/

theorem State.peek_advance (s : State) (n : Nat) (a : Word) : (s.advance n).peek a = s.peek a :=
  State.peek_congr (fun _ => rfl) rfl rfl (fun _ _ => rfl) (.inl rfl)

theorem State.touch_advance (s : State) (n : Nat) (a : Word) : (s.advance n).touch a = (s.touch a).advance n := by
  rw [State.touch_eq, State.touch_eq]; rfl

theorem State.setReg_tick (s : State) (r : Reg) (v : Byte) (n : Nat) : (s.setReg r v).tick n = (s.tick n).setReg r v := by
  cases r <;> rfl

theorem writeByte_tick (a : Word) (v : Byte) (s : State) (n : Nat) : (writeByte a v s).tick n = writeByte a v (s.tick n) := by
  rw [writeByte_nf, writeByte_nf]; rfl

theorem State.reg_advance (s : State) (n : Nat) (r : Reg) : (s.advance n).reg r = s.reg r := by cases r <;> rfl

theorem State.touch_hl (s : State) (a : Word) : (s.touch a).hl = s.hl := by rw [State.touch_eq]; rfl

theorem writeByte_hl (a : Word) (v : Byte) (s : State) : (writeByte a v s).hl = s.hl := by rw [writeByte_nf]; rfl

/-! ## The three kinds of row, with an address and a byte that do not depend on PC -/

section
variable {len cycles : Nat} {s : State} {addr : State → Word} {val : State → Byte}

/-- An instruction that writes a register and nothing else (R161, R164). -/
theorem retire_setReg (dst : Reg) (hv : val (s.advance len) = val s) :
    retire len cycles (fun s => s.setReg dst (val s)) s = .next ((s.past len cycles).setReg dst (val s)) := by
  rw [retire, hv, State.setReg_tick]; rfl

/-- An instruction that loads a register from memory (R162, R166 to R179). -/
theorem retire_load (dst : Reg) (ha : addr (s.advance len) = addr s) :
    retire len cycles (fun s => (s.touch (addr s)).setReg dst (s.peek (addr s))) s =
      .next (((s.touch (addr s)).past len cycles).setReg dst (s.peek (addr s))) := by
  rw [retire, ha, State.peek_advance, State.touch_advance, State.setReg_tick]; rfl

/-- An instruction that stores a byte to memory (R163, R165 to R178). -/
theorem retire_store (ha : addr (s.advance len) = addr s) (hv : val (s.advance len) = val s) :
    retire len cycles (fun s => writeByte (addr s) (val s) s) s = .next (writeByte (addr s) (val s) (s.past len cycles)) := by
  rw [retire, ha, hv, writeByte_tick]; rfl

/-- An access that then steps HL, which it has not changed itself (R170 to R173). -/
theorem retire_stepHl {access : State → State} {t : State} (h : retire len cycles access s = .next t) (ht : t.hl = s.hl)
    (next : Word → Word) :
    retire len cycles (fun s => (access s).setHl (next (access s).hl)) s = .next (t.setHl (next s.hl)) := by
  rw [← ht, ← Host.Outcome.next.inj h]; rfl

end

/-! ## The statements -/

theorem encode_ldRegReg (dst src : Reg) :
    encode (Form.ldRegReg dst src).row = [BitVec.ofNat 8 (0x40 + 8 * dst.code + src.code)] := by
  cases dst <;> cases src <;> rfl

/-- Settles O7: each row writes its one register. -/
theorem registerLoads : Obligations.RegisterLoads := by
  refine ⟨fun dst src s => ⟨encode_ldRegReg dst src, ?_⟩, fun dst n s => ⟨by cases dst <;> rfl, ?_⟩⟩
  · rw [exec_row]
    exact retire_setReg (val := (State.reg · src)) dst (s.reg_advance 1 src)
  · rw [exec_row]
    exact retire_setReg (val := fun _ => n) dst rfl

/-- Settles O8: each row is a load from an address that PC has no part in; two of them then step HL. -/
theorem loadsFromMemory : Obligations.LoadsFromMemory := by
  intro s
  refine ⟨fun dst => ⟨by cases dst <;> rfl, ?_⟩, ⟨rfl, ?_⟩, ⟨rfl, ?_⟩, ⟨rfl, ?_⟩, ⟨rfl, ?_⟩, fun n => ⟨rfl, ?_⟩, ⟨rfl, ?_⟩,
    fun w => ⟨rfl, ?_⟩⟩
  · rw [exec_row]
    exact retire_load (addr := State.hl) dst rfl
  · exact retire_load (addr := State.bc) .a rfl
  · exact retire_load (addr := State.de) .a rfl
  · exact retire_stepHl (retire_load (addr := State.hl) .a rfl) (s.touch_hl s.hl) (· + 1)
  · exact retire_stepHl (retire_load (addr := State.hl) .a rfl) (s.touch_hl s.hl) (· - 1)
  · exact retire_load (addr := fun _ => highPage n) .a rfl
  · exact retire_load (addr := fun s => highPage s.c) .a rfl
  · exact retire_load (addr := fun _ => w) .a rfl

/-- Settles O9: each row is a store of a byte to an address that PC has no part in; two of them then step HL. -/
theorem storesToMemory : Obligations.StoresToMemory := by
  intro s
  refine ⟨fun r => ⟨by cases r <;> rfl, ?_⟩, fun n => ⟨rfl, ?_⟩, ⟨rfl, ?_⟩, ⟨rfl, ?_⟩, ⟨rfl, ?_⟩, ⟨rfl, ?_⟩, fun n => ⟨rfl, ?_⟩,
    ⟨rfl, ?_⟩, fun w => ⟨rfl, ?_⟩⟩
  · rw [exec_row]
    exact retire_store (addr := State.hl) (val := (State.reg · r)) rfl (s.reg_advance 1 r)
  · exact retire_store (addr := State.hl) (val := fun _ => n) rfl rfl
  · exact retire_store (addr := State.bc) (val := State.a) rfl rfl
  · exact retire_store (addr := State.de) (val := State.a) rfl rfl
  · exact retire_stepHl (retire_store (addr := State.hl) (val := State.a) rfl rfl) (writeByte_hl ..) (· + 1)
  · exact retire_stepHl (retire_store (addr := State.hl) (val := State.a) rfl rfl) (writeByte_hl ..) (· - 1)
  · exact retire_store (addr := fun _ => highPage n) (val := State.a) rfl rfl
  · exact retire_store (addr := fun s => highPage s.c) (val := State.a) rfl rfl
  · exact retire_store (addr := fun _ => w) (val := State.a) rfl rfl

end Sys2Proof.Machine
end

section
/-! The family of 41_ld16_stack.md: the 16-bit loads, PUSH and POP, and what the stack gives back. -/

namespace Sys2Proof.Machine

/-! ## Pairs and the stack against the bytes and cycles of an instruction -/

theorem State.setPair_tick (s : State) (p : Pair) (w : Word) (n : Nat) : (s.setPair p w).tick n = (s.tick n).setPair p w := by
  cases p <;> rfl

theorem State.stackPair_advance (s : State) (n : Nat) (p : StackPair) : (s.advance n).stackPair p = s.stackPair p := by
  cases p <;> rfl

theorem State.setStackPair_tick (s : State) (p : StackPair) (w : Word) (n : Nat) :
    (s.setStackPair p w).tick n = (s.tick n).setStackPair p w := by cases p <;> rfl

/-- A push, and the cycles counted after it (R200). -/
theorem push16_tick (w : Word) (s : State) (n : Nat) : (push16 w s).tick n = (s.tick n).afterPush w := by
  rw [push16_eq, State.afterPush, ← writeByte_tick, ← writeByte_tick]; rfl

theorem State.stackWord_advance (s : State) (n : Nat) : (s.advance n).stackWord = s.stackWord := by
  rw [State.stackWord, State.touch_advance, State.peek_advance, State.peek_advance]; rfl

/-- The word on the stack does not depend on PC: a jump is an advance, around the end of the address space if need be. -/
theorem State.stackWord_jump (s : State) (w : Word) : (s.jump w).stackWord = s.stackWord := by
  have hw : s.advance (w - s.pc).toNat = s.jump w := by
    rw [State.advance, BitVec.ofNat_toNat, BitVec.setWidth_eq, add_sub_cancel]; rfl
  rw [← hw, State.stackWord_advance]

theorem State.afterPop_advance (s : State) (n : Nat) : (s.advance n).afterPop = s.afterPop.advance n := by
  rw [State.afterPop, State.touch_advance, State.touch_advance]; rfl

/-- A pop with PC past the instruction, of which it sees nothing (R201). -/
theorem pop16_advance (s : State) (n : Nat) : pop16 (s.advance n) = (s.stackWord, s.afterPop.advance n) := by
  rw [← s.stackWord_advance n, ← s.afterPop_advance n]; exact pop16_eq _

/-! ## What the rows do -/

/-- `PUSH rr` (R205, R206). -/
theorem exec_push (p : StackPair) (s : State) :
    exec (Form.push p).row s = .next ((s.past 1 16).afterPush (s.stackPair p)) := by
  rw [exec_row]
  change retire 1 16 (fun s => push16 (s.stackPair p) s) s = _
  rw [retire, State.stackPair_advance, push16_tick]; rfl

/-- `POP rr` (R207, R208). -/
theorem exec_pop (p : StackPair) (s : State) :
    exec (Form.pop p).row s = .next ((s.afterPop.past 1 12).setStackPair p s.stackWord) := by
  rw [exec_row]
  change retire 1 12 (fun s => (pop16 s).2.setStackPair p (pop16 s).1) s = _
  rw [retire, pop16_advance, State.setStackPair_tick]; rfl

/-- A call, of whatever row, pushes the address after the row's bytes (R326, R331). -/
theorem retire_callTo (len cycles : Nat) (w : Word) (s : State) :
    retire len cycles (callTo w) s = .next (((s.past len cycles).afterPush (s.pc + BitVec.ofNat 16 len)).jump w) := by
  change Host.Outcome.next (((push16 _ (s.advance len)).tick cycles).jump w) = _
  rw [push16_tick]; rfl

/-- A return, of whatever row, takes PC from the stack (R328). -/
theorem retire_returnFrom (len cycles : Nat) (s : State) :
    retire len cycles returnFrom s = .next ((s.afterPop.past len cycles).jump s.stackWord) := by
  change Host.Outcome.next (((pop16 (s.advance len)).2.jump (pop16 (s.advance len)).1).tick cycles) = _
  rw [pop16_advance]; rfl

/-! ## The statements about single rows -/

/-- Settles O10: each row is a write of a register or two writes of a byte, before which PC moves and after which cycles count. -/
theorem wordLoads : Obligations.WordLoads := by
  refine ⟨fun p w s => ⟨by cases p <;> rfl, ?_⟩, fun w s => ⟨rfl, ?_⟩, fun s => ⟨rfl, rfl⟩⟩
  · rw [exec_row]
    exact congrArg Host.Outcome.next ((s.advance 3).setPair_tick p w 12)
  · change retire 3 20 (fun s => writeWord w s.sp s) s = _
    rw [retire, writeWord, writeByte_tick, writeByte_tick]; rfl

/-- Settles O11: the four pairs share one push and one pop, and differ in the two registers a pop loads. -/
theorem pushesAndPops : Obligations.PushesAndPops := fun s =>
  ⟨fun p => ⟨by cases p <;> rfl, exec_push p s⟩, ⟨rfl, exec_pop .bc s⟩, ⟨rfl, exec_pop .de s⟩, ⟨rfl, exec_pop .hl s⟩,
    ⟨rfl, exec_pop .af s⟩⟩

/-! ## What the stack gives back (R97, R201, R326) -/

/-- Two addresses next to each other never share a cell: an address and its echo lie 0x2000 apart (R81). -/
theorem cellOf_ne_of_succ {a b : Word} (hab : a = b + 1) {j k : Nat} (ha : cellOf a = some j) (hb : cellOf b = some k) :
    j ≠ k := by
  have hn : a.toNat = b.toNat + 1 ∨ (a.toNat = 0 ∧ b.toNat = 0xFFFF) := by bv_omega
  rcases cellOf_cases ha with hj | hj <;> rcases cellOf_cases hb with hk | hk <;> omega

/-- The word on the stack, where its two bytes have cells. -/
theorem State.stackWord_of_cells {t : State} {j k : Nat} (hlo : cellOf t.sp = some k) (hhi : cellOf (t.sp + 1) = some j) :
    t.stackWord = wordOf (Memory.load t.ram j) (Memory.load t.ram k) := by
  rw [State.stackWord, State.touch_of_cell hlo, State.peek_of_cell hlo, State.peek_of_cell hhi]

/-- The word a push leaves on the stack, in cells that keep what is written to them, is the word pushed: the low byte's write does
not meet the high byte's cell. -/
theorem State.stackWord_afterPush {s : State} (hm : Memory.wf s.ram) (hhi : ∃ k, cellOf (s.sp - 1) = some k ∧ k ≠ lyAddr)
    (hlo : ∃ k, cellOf (s.sp - 2) = some k ∧ k ≠ lyAddr) (w : Word) : (s.afterPush w).stackWord = w := by
  obtain ⟨j, hj, hjly⟩ := hhi
  obtain ⟨k, hk, hkly⟩ := hlo
  have hsp : s.sp - 2 + 1 = s.sp - 1 := by bv_omega
  have hjk : j ≠ k := cellOf_ne_of_succ hsp.symm hj hk
  have ram : (s.afterPush w).ram = Memory.store (Memory.store s.ram j (hiByte w)) k (loByte w) := by
    change (writeByte (s.sp - 2) (loByte w) (writeByte (s.sp - 1) (hiByte w) s)).ram = _
    simp only [writeByte_ram, hj, hk, writtenByte, if_neg hjly, if_neg hkly]
  have hm' : Memory.wf (Memory.store s.ram j (hiByte w)) := Memory.store_wf hm _ _
  rw [State.stackWord_of_cells (k := k) (j := j) hk (hsp ▸ hj), ram, Memory.load_store hm'.1, if_neg hjk,
    Memory.load_store hm.1, if_pos rfl, Memory.load_store hm'.1, if_pos rfl, wordOf_hiByte_loByte]

/-- The mask of F in a word whose low byte is F (R24, R208). -/
theorem wordOf_mask_low (hi lo : Byte) : wordOf hi (lo &&& 0xF0) = wordOf hi lo &&& 0xFFF0 :=
  calc wordOf hi (lo &&& 0xF0)
    _ = wordOf (hi &&& 0xFF) (lo &&& 0xF0) := by rw [show (0xFF : Byte) = BitVec.allOnes 8 from rfl, BitVec.and_allOnes]
    _ = wordOf hi lo &&& wordOf 0xFF 0xF0 := BitVec.and_append.symm

/-- What a pop leaves in its pair: the word, but AF loses F's bits 3 to 0 (R208). -/
theorem State.stackPair_setStackPair (s : State) (p : StackPair) (w : Word) :
    (s.setStackPair p w).stackPair p = if p = .af then w &&& 0xFFF0 else w := by
  cases p with
  | af => exact (wordOf_mask_low (hiByte w) (loByte w)).trans (congrArg (· &&& 0xFFF0) (wordOf_hiByte_loByte w))
  | bc | de | hl => exact wordOf_hiByte_loByte w

/-- Settles O29: what was pushed is the word on the stack when it is popped, 2 below and 2 above being where SP was. -/
theorem stackRoundTrips : Obligations.StackRoundTrips := by
  intro s hm hhi hlo
  have hsp : s.sp - 2 + 2 = s.sp := by bv_omega
  refine ⟨fun p q => ⟨_, _, exec_push p s, exec_pop q _, (State.setStackPair_sp _ q _).trans hsp, ?_⟩,
    fun w => ⟨_, _, retire_callTo 3 24 w s, rfl, retire_returnFrom 1 16 _, ?_, hsp⟩⟩
  · rw [State.stackPair_setStackPair, State.stackWord_afterPush (s := s.past 1 16) hm hhi hlo]
  · exact (State.stackWord_jump _ w).trans (State.stackWord_afterPush (s := s.past 3 24) hm hhi hlo _)

end Sys2Proof.Machine
end

section
/-! The family of 42_alu8.md: 8-bit arithmetic and logic, DAA, and the flags of SCF, CCF and CPL. -/

namespace Sys2Proof.Machine

/-! ## The rows' bytes (R127, R220) -/

theorem encode_alu (op : Alu) (x : R8) : encode (Form.alu op x).row = [BitVec.ofNat 8 (0x80 + 8 * op.code + x.code)] := by
  cases x with
  | reg r => cases op <;> cases r <;> rfl
  | memHl => cases op <;> rfl

theorem encode_inc (x : R8) : encode (Form.inc x).row = [BitVec.ofNat 8 (0x04 + 8 * x.code)] := by
  cases x with
  | reg r => cases r <;> rfl
  | memHl => rfl

theorem encode_dec (x : R8) : encode (Form.dec x).row = [BitVec.ofNat 8 (0x05 + 8 * x.code)] := by
  cases x with
  | reg r => cases r <;> rfl
  | memHl => rfl

/-! ## The rows with their result -/

/-- A with a result's value and F with its flags. -/
def State.withResult (t : State) (r : Flagged) : State := { t with a := r.value }.flagsFrom r

theorem State.withResult_flagN (t : State) (r : Flagged) : (t.withResult r).flagN = r.n := packFlags_n ..
theorem State.withResult_flagH (t : State) (r : Flagged) : (t.withResult r).flagH = r.h := packFlags_h ..
theorem State.withResult_flagC (t : State) (r : Flagged) : (t.withResult r).flagC = r.c := packFlags_c ..

section
variable {op : Alu} {s : State} {r : Flagged}

/-- A register or (HL) row of an accumulator operation, whose result is known. -/
theorem exec_alu (x : R8) (h : aluResult op s.a (s.operand x) s.flagC = r) :
    exec (Form.alu op x).row s = .next (((s.afterRead x).past 1 (r8Cycles x 4 8)).withResult r) := by
  rw [exec_row, ← h]; exact aluOp_eq op x 1 _ s

/-- An immediate row of an accumulator operation, whose result is known. -/
theorem exec_aluD8 (n : Byte) (h : aluResult op s.a n s.flagC = r) :
    exec (Form.aluD8 op n).row s = .next ((s.past 2 8).withResult r) := by
  rw [exec_row, ← h]; rfl

end

/-- `DAA` (R233). -/
theorem exec_daa (s : State) : exec .daa s = .next ((s.past 1 4).withResult (daa8 s.a s.flagN s.flagH s.flagC)) := rfl

/-! ## The results (R237) -/

/-- A difference on integers, mod 2^8, is the difference of the bytes. -/
theorem ofInt_sub_sub (a x : Byte) (c : Nat) :
    BitVec.ofInt 8 ((a.toNat : Int) - x.toNat - c) = a - x - BitVec.ofNat 8 c := by
  apply BitVec.eq_of_toNat_eq
  simp only [BitVec.toNat_ofInt, BitVec.toNat_sub, BitVec.toNat_ofNat]
  omega

theorem sub8_eq (a x : Byte) (cin : Bool) :
    sub8 a x cin =
      { value := a - x - BitVec.ofNat 8 cin.toNat
        z := decide (a - x - BitVec.ofNat 8 cin.toNat = 0)
        n := true
        h := decide (a.toNat % 16 < x.toNat % 16 + cin.toNat)
        c := decide (a.toNat < x.toNat + cin.toNat) } := by
  rw [sub8, ofInt_sub_sub]; rfl

/-- The result of a comparison: A itself, and Z exactly when the operand is A (R228). -/
theorem aluResult_cp (a x : Byte) (cin : Bool) :
    aluResult .cp a x cin =
      { value := a, z := decide (a = x), n := true, h := decide (a.toNat % 16 < x.toNat % 16)
        c := decide (a.toNat < x.toNat) } := by
  have hz : a - x - BitVec.ofNat 8 false.toNat = 0 ↔ a = x := by
    rw [Bool.toNat_false, BitVec.ofNat_eq_ofNat, BitVec.sub_zero]; exact sub_eq_zero
  rw [aluResult, sub8_eq]
  simp only [hz]; rfl

/-- The low nibble, compared as a byte or as an integer. -/
theorem and_low_beq (v k : Byte) : (v &&& 0xF == k) = decide (v.toNat % 16 = k.toNat) := by
  rw [beq_eq_decide, ← Nat.and_two_pow_sub_one_eq_mod v.toNat 4]
  exact decide_eq_decide.mpr BitVec.toNat_eq

theorem inc8_eq (v : Byte) (c : Bool) :
    inc8 v c = { value := v + 1, z := decide (v = 0xFF), n := false, h := decide (v.toNat % 16 = 0xF), c := c } := by
  rw [inc8, and_low_beq]; rfl

theorem dec8_eq (v : Byte) (c : Bool) :
    dec8 v c = { value := v - 1, z := decide (v = 0x01), n := true, h := decide (v.toNat % 16 = 0), c := c } := by
  rw [dec8, and_low_beq]; rfl

/-! ## DAA's two corrections, on integers (R233) -/

/-- Whether DAA corrects the high digit. -/
def daaHigh (a : Byte) (n c : Bool) : Bool := if n then c else c || decide (a.toNat > 0x99)

/-- Whether DAA corrects the low digit. -/
def daaLow (a : Byte) (n h : Bool) : Bool := if n then h else h || decide (a.toNat % 16 > 9)

/-- The size of both corrections together. -/
def daaChange (high low : Bool) : Nat := (if high then 0x60 else 0) + (if low then 0x06 else 0)

/-- The byte DAA leaves. -/
def daaValue (a : Byte) (n high low : Bool) : Byte :=
  if n then a - BitVec.ofNat 8 (daaChange high low) else a + BitVec.ofNat 8 (daaChange high low)

/-- The low digit does not see the correction of the high one. -/
theorem low_add_high (a : Byte) (high : Bool) : ((if high then a + 0x60 else a) &&& 0x0F).toNat = a.toNat % 16 := by
  rw [BitVec.toNat_and]
  refine (Nat.and_two_pow_sub_one_eq_mod _ 4).trans ?_
  cases high with
  | false => rfl
  | true =>
    rw [if_pos rfl, BitVec.toNat_add]
    change (a.toNat + 0x60) % 256 % 16 = a.toNat % 16
    omega

/-- DAA with both corrections decided before either is made. -/
theorem daa8_eq (a : Byte) (n h c : Bool) :
    daa8 a n h c =
      { value := daaValue a n (daaHigh a n c) (daaLow a n h)
        z := decide (daaValue a n (daaHigh a n c) (daaLow a n h) = 0)
        n := n, h := false, c := daaHigh a n c } := by
  cases n with
  | true =>
    have value : (if h then (if c then a - 0x60 else a) - 0x06 else if c then a - 0x60 else a) = daaValue a true c h := by
      cases c <;> cases h <;> simp [daaValue, daaChange, BitVec.sub_sub]
    exact congrArg (fun v => Flagged.mk v (v == 0) true false c) value
  | false =>
    have value (high low : Bool) :
        (if low then (if high then a + 0x60 else a) + 0x06 else if high then a + 0x60 else a) = daaValue a false high low := by
      cases high <;> cases low <;> simp [daaValue, daaChange, BitVec.add_assoc]
    simp only [daa8, low_add_high, value]; rfl

/-! ## DAA after an addition or a subtraction of packed decimal bytes -/

/-- The two low decimal digits of a number, packed in a byte. -/
def packedBcd (n : Nat) : Byte := BitVec.ofNat 8 (16 * (n / 10 % 10) + n % 10)

theorem packedBcd_mod_hundred (n : Nat) : packedBcd (n % 100) = packedBcd n := by
  have tens : n % 100 / 10 % 10 = n / 10 % 10 := by omega
  have ones : n % 100 % 10 = n % 10 := by omega
  rw [packedBcd, tens, ones, packedBcd]

/-- DAA on a result just computed. -/
def Flagged.adjusted (r : Flagged) : Flagged := daa8 r.value r.n r.h r.c

theorem Flagged.adjusted_value (r : Flagged) :
    r.adjusted.value = daaValue r.value r.n (daaHigh r.value r.n r.c) (daaLow r.value r.n r.h) :=
  congrArg Flagged.value (daa8_eq ..)

theorem Flagged.adjusted_c (r : Flagged) : r.adjusted.c = daaHigh r.value r.n r.c := congrArg Flagged.c (daa8_eq ..)

section
variable {m n : Nat}

theorem packedBcd_toNat (hn : n < 100) : (packedBcd n).toNat = 16 * (n / 10) + n % 10 :=
  (Nat.mod_eq_of_lt (by omega)).trans (by omega)

/-- Each correction skips the six codes of its digit that are none: the high one when the sum carries out of the tens, the low one
when it carries out of the ones. -/
theorem packedBcd_add (hm : m < 100) (hn : n < 100) :
    packedBcd m + packedBcd n + BitVec.ofNat 8 (daaChange (decide (m + n ≥ 100)) (decide (m % 10 + n % 10 ≥ 10))) =
      packedBcd (m + n) := by
  have hmn := (m + n).mod_lt (y := 100) (by decide)
  apply BitVec.eq_of_toNat_eq
  rw [← packedBcd_mod_hundred (m + n)]
  simp only [BitVec.toNat_add, BitVec.toNat_ofNat, packedBcd_toNat, hm, hn, hmn, daaChange, decide_eq_true_eq]
  split <;> split <;> omega

/-- The difference mod 100 is what the subtrahend is added to, so that the borrows are the carries of that sum. -/
theorem packedBcd_sub (hm : m < 100) (hn : n < 100) :
    packedBcd m - packedBcd n - BitVec.ofNat 8 (daaChange (decide (m < n)) (decide (m % 10 < n % 10))) =
      packedBcd ((100 + m - n) % 100) := by
  have sum := packedBcd_add (m := (100 + m - n) % 100) (Nat.mod_lt _ (by decide)) hn
  have high : (100 + m - n) % 100 + n ≥ 100 ↔ m < n := by omega
  have low : (100 + m - n) % 100 % 10 + n % 10 ≥ 10 ↔ m % 10 < n % 10 := by omega
  have total : ((100 + m - n) % 100 + n) % 100 = m := by omega
  rw [← packedBcd_mod_hundred (_ + n), total] at sum
  simp only [high, low] at sum
  rw [← sum]
  abel

/-- After an addition, DAA's test of the whole byte finds the decimal carry out of the tens (R221, R233). -/
theorem daaHigh_add8 (hm : m < 100) (hn : n < 100) :
    daaHigh (add8 (packedBcd m) (packedBcd n) false).value false (add8 (packedBcd m) (packedBcd n) false).c =
      decide (m + n ≥ 100) := by
  have test (k : Nat) (hk : k < 256 + 0x99) : k > 0xFF ∨ k % 256 > 0x99 ↔ k > 0x99 := by omega
  simp only [daaHigh, add8, packedBcd_toNat, hm, hn, Bool.toNat_false, BitVec.toNat_ofNat, Bool.false_eq_true, if_false,
    ← Bool.decide_or]
  exact decide_eq_decide.mpr ((test _ (by omega)).trans (by omega))

/-- After an addition, DAA's test of the low nibble finds the decimal carry out of the ones (R221, R233). -/
theorem daaLow_add8 (hm : m < 100) (hn : n < 100) :
    daaLow (add8 (packedBcd m) (packedBcd n) false).value false (add8 (packedBcd m) (packedBcd n) false).h =
      decide (m % 10 + n % 10 ≥ 10) := by
  simp only [daaLow, add8, packedBcd_toNat, hm, hn, Bool.toNat_false, BitVec.toNat_ofNat, Bool.false_eq_true, if_false,
    ← Bool.decide_or]
  exact decide_eq_decide.mpr (by omega)

/-- After an addition DAA leaves the decimal sum (R221, R233). -/
theorem add8_adjusted (hm : m < 100) (hn : n < 100) :
    (add8 (packedBcd m) (packedBcd n) false).adjusted.value = packedBcd ((m + n) % 100) ∧
      (add8 (packedBcd m) (packedBcd n) false).adjusted.c = decide (m + n ≥ 100) := by
  have value : (add8 (packedBcd m) (packedBcd n) false).value = packedBcd m + packedBcd n := by
    simp [add8, BitVec.ofNat_add]
  refine ⟨?_, (Flagged.adjusted_c _).trans (daaHigh_add8 hm hn)⟩
  rw [Flagged.adjusted_value, packedBcd_mod_hundred, ← packedBcd_add hm hn, ← value, ← daaHigh_add8 hm hn,
    ← daaLow_add8 hm hn]
  rfl

/-- After a subtraction the borrows are the decimal borrows, and DAA leaves the decimal difference (R223, R233). -/
theorem sub8_adjusted (hm : m < 100) (hn : n < 100) :
    (sub8 (packedBcd m) (packedBcd n) false).adjusted.value = packedBcd ((100 + m - n) % 100) ∧
      (sub8 (packedBcd m) (packedBcd n) false).adjusted.c = decide (m < n) := by
  have high : (packedBcd m).toNat < (packedBcd n).toNat + false.toNat ↔ m < n := by
    rw [packedBcd_toNat hm, packedBcd_toNat hn, Bool.toNat_false]; omega
  have low : (packedBcd m).toNat % 16 < (packedBcd n).toNat % 16 + false.toNat ↔ m % 10 < n % 10 := by
    rw [packedBcd_toNat hm, packedBcd_toNat hn, Bool.toNat_false]; omega
  rw [Flagged.adjusted_value, Flagged.adjusted_c, sub8_eq, ← packedBcd_sub hm hn]
  simp only [high, low]
  exact ⟨congrArg (· - _) (BitVec.sub_zero _), rfl⟩

end

/-- An immediate row and a `DAA` right after it. -/
theorem exec_aluD8_daa {op : Alu} {x : Byte} {s : State} {r : Flagged} (h : aluResult op s.a x s.flagC = r) :
    ∃ t w, exec (Form.aluD8 op x).row s = .next t ∧ exec .daa t = .next w ∧ w.a = r.adjusted.value ∧
      w.flagC = r.adjusted.c := by
  have hw := exec_daa ((s.past 2 8).withResult r)
  simp only [State.withResult_flagN, State.withResult_flagH, State.withResult_flagC] at hw
  exact ⟨_, _, exec_aluD8 x h, hw, rfl, State.withResult_flagC ..⟩

/-! ## The statements -/

/-- Settles O18: DAA on the result of `ADD A,d8` or `SUB d8`, whose operands are packed decimal bytes. -/
theorem decimalAdjustAfterAddAndSub : Obligations.DecimalAdjustAfterAddAndSub := by
  intro x y u v s packed m n ha
  have hm : m < 100 := by omega
  have hn : n < 100 := by omega
  constructor
  · obtain ⟨t, w, ht, hw, hwa, hwc⟩ := exec_aluD8_daa (op := .add) (x := packed n) (s := s) rfl
    obtain ⟨sum, carry⟩ := add8_adjusted hm hn
    rw [ha] at hwa hwc
    exact ⟨t, w, ht, hw, hwa.trans sum, hwc.trans carry⟩
  · obtain ⟨t, w, ht, hw, hwa, hwc⟩ := exec_aluD8_daa (op := .sub) (x := packed n) (s := s) rfl
    obtain ⟨difference, borrow⟩ := sub8_adjusted hm hn
    rw [ha] at hwa hwc
    exact ⟨t, w, ht, hw, hwa.trans difference, hwc.trans borrow⟩

/-- Settles O12: a row's result is the sum on integers, whatever the operand. -/
theorem additionsToA : Obligations.AdditionsToA := fun _ =>
  ⟨fun x => ⟨encode_alu .add x, exec_alu x rfl⟩, fun n => ⟨rfl, exec_aluD8 (op := .add) n rfl⟩,
    fun x => ⟨encode_alu .adc x, exec_alu x rfl⟩, fun n => ⟨rfl, exec_aluD8 (op := .adc) n rfl⟩⟩

/-- Settles O13: a row's result is the difference, and the borrows come from the integers. -/
theorem subtractionsFromA : Obligations.SubtractionsFromA := fun s =>
  ⟨fun x => ⟨encode_alu .sub x, exec_alu (op := .sub) x (sub8_eq s.a _ false)⟩,
    fun n => ⟨rfl, exec_aluD8 (op := .sub) n (sub8_eq s.a n false)⟩,
    fun x => ⟨encode_alu .sbc x, exec_alu (op := .sbc) x (sub8_eq s.a _ s.flagC)⟩,
    fun n => ⟨rfl, exec_aluD8 (op := .sbc) n (sub8_eq s.a n s.flagC)⟩⟩

theorem State.afterRead_a (s : State) (x : R8) : (s.afterRead x).a = s.a := by
  cases x with
  | reg r => rfl
  | memHl => exact s.touch_a s.hl

/-- Settles O14: the result has A's own value, so that A stays as it is. -/
theorem compareWithA : Obligations.CompareWithA := by
  refine fun s => ⟨fun x => ⟨encode_alu .cp x, ?_⟩, fun n => ⟨rfl, exec_aluD8 (op := .cp) n (aluResult_cp s.a n s.flagC)⟩⟩
  rw [exec_alu x (aluResult_cp s.a _ s.flagC), State.withResult, ← s.afterRead_a x]; rfl

/-- Settles O15: each row's result is the bitwise one with its fixed flags. -/
theorem logicOnA : Obligations.LogicOnA := fun _ =>
  ⟨fun x => ⟨encode_alu .and x, exec_alu x rfl, encode_alu .xor x, exec_alu x rfl, encode_alu .or x, exec_alu x rfl⟩,
    fun n => ⟨rfl, exec_aluD8 (op := .and) n rfl, rfl, exec_aluD8 (op := .xor) n rfl, rfl, exec_aluD8 (op := .or) n rfl⟩⟩

/-- Settles O16: a register and (HL) share one read-modify-write. -/
theorem byteIncrementDecrement : Obligations.ByteIncrementDecrement := by
  refine fun x s => ⟨encode_inc x, (exec_row (.inc x) s).trans ?_, encode_dec x, (exec_row (.dec x) s).trans ?_⟩
  · have h := retire_modifyR8 x 1 (r8Cycles x 4 12) inc8 s
    rw [inc8_eq] at h
    exact h
  · have h := retire_modifyR8 x 1 (r8Cycles x 4 12) dec8 s
    rw [dec8_eq] at h
    exact h

/-- Settles O17: DAA's corrections are decided on the byte as it stands before either. -/
theorem decimalAdjustComplementCarry : Obligations.DecimalAdjustComplementCarry := by
  refine fun s => ⟨rfl, ?_, rfl, rfl, rfl, rfl, rfl, rfl⟩
  rw [exec_daa, daa8_eq]; rfl

end Sys2Proof.Machine
end

section
/-! The family of 43_alu16.md: INC and DEC of a pair, the additions to HL, and SP plus a signed byte. -/

namespace Sys2Proof.Machine

/-! ## Pairs (R261, R262) -/

theorem State.pair_advance (s : State) (n : Nat) (p : Pair) : (s.advance n).pair p = s.pair p := by cases p <;> rfl

/-- An instruction that writes a pair and nothing else, from a word in which PC has no part (R261, R262). -/
theorem retire_setPair {len cycles : Nat} {s : State} {val : State → Word} (p : Pair) (hv : val (s.advance len) = val s) :
    retire len cycles (fun s => s.setPair p (val s)) s = .next ((s.past len cycles).setPair p (val s)) := by
  rw [retire, hv, State.setPair_tick]; rfl

/-- Settles O19: each row writes its pair from the pair's own word. -/
theorem pairIncrementDecrement : Obligations.PairIncrementDecrement := by
  refine fun p s => ⟨by cases p <;> rfl, (exec_row (.incPair p) s).trans ?_, by cases p <;> rfl,
    (exec_row (.decPair p) s).trans ?_⟩
  · exact retire_setPair (val := fun s => s.pair p + 1) p (congrArg (· + 1) (s.pair_advance 1 p))
  · exact retire_setPair (val := fun s => s.pair p - 1) p (congrArg (· - 1) (s.pair_advance 1 p))

/-! ## Additions (R260, R263, R264) -/

/-- The offset byte on integers: 0x80 and above are the negative ones. -/
theorem toInt_byte (e : Byte) : e.toInt = if e.toNat < 128 then (e.toNat : Int) else e.toNat - 256 := by
  rw [BitVec.toInt_eq_toNat_cond]
  exact if_congr (by omega) rfl rfl

/-- A word plus a signed byte, on integers mod 2^16 (D6). -/
theorem ofInt_add_signed (w : Word) (e : Byte) :
    BitVec.ofInt 16 (w.toNat + (if e.toNat < 128 then (e.toNat : Int) else e.toNat - 256)) = w + sext8 e := by
  rw [← toInt_byte, BitVec.ofInt_add, BitVec.ofInt_natCast, BitVec.ofNat_toNat, BitVec.setWidth_eq]; rfl

/-- `ADD HL,rr` (R260). -/
theorem exec_addHl (p : Pair) (s : State) :
    exec (Form.addHl p).row s = .next (((s.past 1 8).setHl (s.hl + s.pair p)).setFlags s.flagZ false
      (carry11 s.hl (s.pair p)) (carry15 s.hl (s.pair p))) := by
  rw [exec_row]
  change retire 1 8 (fun s => (s.setHl (s.hl + s.pair p)).setFlags s.flagZ false _ _) s = _
  rw [retire, State.pair_advance]; rfl

/-- Settles O20: the sum with a signed byte is the one on integers; the carries are defined on integers. -/
theorem wordAdditions : Obligations.WordAdditions := by
  refine ⟨fun p s => ⟨by cases p <;> rfl, exec_addHl p s⟩, fun e s => ?_⟩
  simp only [ofInt_add_signed]
  exact ⟨rfl, rfl, rfl, rfl⟩

end Sys2Proof.Machine
end

section
/-! The family of 44_rotate_a.md: the accumulator's rotations, on integers. -/

namespace Sys2Proof.Machine

/-- A bit that a byte does not have is set by adding it. -/
theorem or_twoPow_eq_ofNat {v : Byte} {i : Nat} (hv : v.getLsbD i = false) (p : Bool) :
    (v ||| if p then BitVec.twoPow 8 i else 0) = BitVec.ofNat 8 (v.toNat + 2 ^ i * p.toNat) := by
  have disjoint : v &&& BitVec.twoPow 8 i = 0 := by rw [BitVec.and_twoPow, hv]; rfl
  cases p with
  | false => simp
  | true =>
    rw [if_pos rfl, ← BitVec.add_eq_or_of_and_eq_zero _ _ disjoint]
    apply BitVec.eq_of_toNat_eq
    simp

/-- A shift to the left and the bit shifted in at the bottom, on integers (R280, R281). -/
theorem shiftLeft_or_bit (v : Byte) (p : Bool) :
    (v <<< 1 ||| if p then 0x01 else 0) = BitVec.ofNat 8 (2 * v.toNat % 256 + p.toNat) := by
  have double : (v <<< 1).toNat = 2 * v.toNat % 256 := by rw [BitVec.toNat_shiftLeft, Nat.shiftLeft_eq, Nat.mul_comm]
  have bottom : (v <<< 1).getLsbD 0 = false := by simp
  have h := or_twoPow_eq_ofNat bottom p
  rwa [double, pow_zero, Nat.one_mul] at h

/-- A shift to the right and the bit shifted in at the top, on integers (R282, R283). -/
theorem ushiftRight_or_bit (v : Byte) (p : Bool) :
    (v >>> 1 ||| if p then 0x80 else 0) = BitVec.ofNat 8 (v.toNat / 2 + 128 * p.toNat) := by
  have top : (v >>> 1).getLsbD 7 = false := by simp
  exact or_twoPow_eq_ofNat top p

/-- Settles O21: each row is the model's rotation of A, whose byte is the one on integers. -/
theorem accumulatorRotates : Obligations.AccumulatorRotates := by
  intro s
  simp only [← shiftLeft_or_bit, ← ushiftRight_or_bit]
  exact ⟨rfl, rfl, rfl, rfl, rfl, rfl, rfl, rfl⟩

end Sys2Proof.Machine
end

section
/-! The family of 45_cb_rotate_shift.md: the second page's rotates, shifts and SWAP, on integers. -/

namespace Sys2Proof.Machine

/-! ## The rows (R128, R290) -/

theorem encode_cbRot (op : Rot) (x : R8) :
    encode (Form.cbRot op x).row = [0xCB, BitVec.ofNat 8 (8 * op.code + x.code)] := by
  cases x with
  | reg r => cases op <;> cases r <;> rfl
  | memHl => cases op <;> rfl

/-- A row whose result is known as an integer, and the bit it shifts out (R290). -/
theorem exec_cbRot {op : Rot} {x : R8} {s : State} {n : Nat} {out : Bool}
    (hv : (rotValue op (s.operand x) s.flagC).toNat = n) (ho : rotOut op (s.operand x) = out) :
    exec (Form.cbRot op x).row s = .next
      { writeR8 x (BitVec.ofNat 8 n) ((s.afterRead x).past 2 (r8Cycles x 8 16)) with
        f := packFlags (decide (n = 0)) false false out } := by
  have zero : (rotValue op (s.operand x) s.flagC == 0) = decide (n = 0) := by
    rw [beq_eq_decide, ← hv]; exact decide_eq_decide.mpr BitVec.toNat_eq
  rw [exec_row, ← zero, ← hv, BitVec.ofNat_toNat, BitVec.setWidth_eq, ← ho]
  exact retire_modifyR8 x 2 _ (rotResult op) s

/-! ## The bits at both ends and the shifts, on integers -/

theorem toNat_getLsbD_top (v : Byte) : (v.getLsbD 7).toNat = v.toNat / 128 :=
  (Nat.toNat_testBit v.toNat 7).trans (Nat.mod_eq_of_lt (by omega))

theorem toNat_getLsbD_low (v : Byte) : (v.getLsbD 0).toNat = v.toNat % 2 :=
  (Nat.toNat_testBit v.toNat 0).trans (congrArg (· % 2) v.toNat.div_one)

/-- A bit is set exactly when its digit on integers is 1. -/
theorem eq_decide_of_toNat_eq {p : Bool} {d : Nat} (h : p.toNat = d) : p = decide (d = 1) := by
  subst h
  cases p <;> rfl

theorem toNat_shiftLeft_or_bit (v : Byte) (p : Bool) :
    (v <<< 1 ||| if p then 0x01 else 0).toNat = 2 * v.toNat % 256 + p.toNat := by
  have := p.toNat_lt
  rw [shiftLeft_or_bit, BitVec.toNat_ofNat, Nat.mod_eq_of_lt (by omega)]

theorem toNat_ushiftRight_or_bit (v : Byte) (p : Bool) :
    (v >>> 1 ||| if p then 0x80 else 0).toNat = v.toNat / 2 + 128 * p.toNat := by
  have := p.toNat_lt
  rw [ushiftRight_or_bit, BitVec.toNat_ofNat, Nat.mod_eq_of_lt (by omega)]

/-- The bit that SRA keeps at the top (R296). -/
theorem and_top (v : Byte) : v &&& 0x80 = if v.getLsbD 7 then 0x80 else 0 := BitVec.and_twoPow v 7

/-- SWAP moves each nibble to the place of the other, and the two places do not meet (R297). -/
theorem toNat_swap (v : Byte) : (v <<< 4 ||| v >>> 4).toNat = v.toNat % 16 * 16 + v.toNat / 16 := by
  have high : (v <<< 4).toNat = (v.toNat % 16) <<< 4 := by
    rw [BitVec.toNat_shiftLeft, Nat.shiftLeft_eq, Nat.shiftLeft_eq]; omega
  have low : (v >>> 4).toNat = v.toNat / 16 := Nat.shiftRight_eq_div_pow v.toNat 4
  rw [BitVec.toNat_or, high, low, ← Nat.shiftLeft_add_eq_or_of_lt (show v.toNat / 16 < 2 ^ 4 by omega), Nat.shiftLeft_eq]

/-! ## The statement -/

/-- Settles O22: a shift by one with the bit that comes in at the free end, or for SWAP the two nibbles exchanged. -/
theorem secondPageShifts : Obligations.SecondPageShifts := by
  intro op x s v top low result out
  refine ⟨encode_cbRot op x, ?_⟩
  have left (p : Bool) := toNat_shiftLeft_or_bit (s.operand x) p
  have right (p : Bool) := toNat_ushiftRight_or_bit (s.operand x) p
  have noBit (w : Byte) : w.toNat = (w ||| 0).toNat := congrArg BitVec.toNat BitVec.or_zero.symm
  have bit7 : ((s.operand x).getLsbD 7).toNat = top := toNat_getLsbD_top _
  have bit0 : ((s.operand x).getLsbD 0).toNat = low := toNat_getLsbD_low _
  have out7 := eq_decide_of_toNat_eq bit7
  have out0 := eq_decide_of_toNat_eq bit0
  cases op with
  | rlc => exact exec_cbRot ((left _).trans (congrArg _ bit7)) out7
  | rrc => exact exec_cbRot ((right _).trans (congrArg (v / 2 + 128 * ·) bit0)) out0
  | rl => exact exec_cbRot (left _) out7
  | rr => exact exec_cbRot (right _) out0
  | sla => exact exec_cbRot ((noBit _).trans (left false)) out7
  | sra =>
    have value : (s.operand x >>> 1 ||| s.operand x &&& 0x80).toNat = v / 2 + 128 * top := by rw [and_top, right, bit7]
    exact exec_cbRot value out0
  | swap => exact exec_cbRot (toNat_swap _) rfl
  | srl => exact exec_cbRot ((noBit _).trans (right false)) out0

end Sys2Proof.Machine
end

section
/-! The family of 46_cb_bit.md: the second page's BIT, RES and SET. -/

namespace Sys2Proof.Machine

/-! ## The rows' bytes (R124, R133) -/

theorem encode_bit_res_set (b : Fin 8) (x : R8) :
    encode (Form.bit b x).row = [0xCB, BitVec.ofNat 8 (0x40 + 8 * b.val + x.code)] ∧
    encode (Form.res b x).row = [0xCB, BitVec.ofNat 8 (0x80 + 8 * b.val + x.code)] ∧
    encode (Form.set b x).row = [0xCB, BitVec.ofNat 8 (0xC0 + 8 * b.val + x.code)] := by
  cases x with
  | reg r => cases r <;> fin_cases b <;> exact ⟨rfl, rfl, rfl⟩
  | memHl => fin_cases b <;> exact ⟨rfl, rfl, rfl⟩

/-! ## The operand, with PC already past the row's bytes and the cycles not yet counted -/

theorem State.operand_advance (s : State) (n : Nat) (x : R8) : (s.advance n).operand x = s.operand x := by
  cases x with
  | reg r => exact s.reg_advance n r
  | memHl => exact s.peek_advance n s.hl

theorem State.afterRead_advance (s : State) (n : Nat) (x : R8) : (s.advance n).afterRead x = (s.afterRead x).advance n := by
  cases x with
  | reg r => rfl
  | memHl => exact s.touch_advance n s.hl

theorem writeR8_tick (x : R8) (v : Byte) (s : State) (n : Nat) : (writeR8 x v s).tick n = writeR8 x v (s.tick n) := by
  cases x with
  | reg r => exact s.setReg_tick r v n
  | memHl => exact writeByte_tick s.hl v s n

theorem State.afterRead_flagC (s : State) (x : R8) : (s.afterRead x).flagC = s.flagC := by
  cases x with
  | reg r => rfl
  | memHl => exact s.touch_flag s.hl .c

/-! ## The rows -/

/-- `BIT b,x` reads its operand and writes F (R310). -/
theorem exec_bit (b : Fin 8) (x : R8) (s : State) :
    exec (Form.bit b x).row s = .next (((s.afterRead x).past 2 (r8Cycles x 8 12)).setFlags
      (!(s.operand x).getLsbD b.val) false true s.flagC) := by
  simp only [exec_row, formMeaning, bitOp, retire, readR8_eq, State.operand_advance, State.afterRead_advance]
  rw [← s.afterRead_flagC x]; rfl

/-- A row that reads its operand and writes it back changed, and no flag (R311, R312). -/
theorem retire_writeBackR8 (x : R8) (len cycles : Nat) (g : Byte → Byte) (s : State) :
    retire len cycles (fun s => writeR8 x (g (readR8 x s).1) (readR8 x s).2) s =
      .next (writeR8 x (g (s.operand x)) ((s.afterRead x).past len cycles)) := by
  simp only [retire, readR8_eq, State.operand_advance, State.afterRead_advance, writeR8_tick]; rfl

/-! ## One bit of a byte -/

theorem getLsbD_bitMask (b : Fin 8) (k : Nat) : ((1 : Byte) <<< b.val).getLsbD k = decide (k = b.val) := by
  have h : ((1 : Byte) <<< b.val).getLsbD k = (decide (b.val < 8) && decide (b.val = k)) := BitVec.getLsbD_twoPow b.val k
  rw [h, decide_eq_true b.isLt, Bool.true_and, decide_eq_decide]
  exact eq_comm

theorem getLsbD_clearBit (v : Byte) (b : Fin 8) {k : Nat} (hk : k < 8) :
    (v &&& ~~~((1 : Byte) <<< b.val)).getLsbD k = (decide (k ≠ b.val) && v.getLsbD k) := by
  rw [BitVec.getLsbD_and, BitVec.getLsbD_not, getLsbD_bitMask, decide_eq_true hk, Bool.true_and, Bool.and_comm, decide_not]

theorem getLsbD_raiseBit (v : Byte) (b : Fin 8) (k : Nat) :
    (v ||| (1 : Byte) <<< b.val).getLsbD k = (decide (k = b.val) || v.getLsbD k) := by
  rw [BitVec.getLsbD_or, getLsbD_bitMask, Bool.or_comm]

/-! ## The statements -/

/-- Settles O23: the operand is read, and F alone is written. -/
theorem bitTest : Obligations.BitTest := fun b x s => ⟨(encode_bit_res_set b x).1, exec_bit b x s⟩

/-- Settles O24: both rows write back the operand under a mask of the one bit. -/
theorem bitResetAndSet : Obligations.BitResetAndSet := by
  intro b x s
  obtain ⟨-, bytesRes, bytesSet⟩ := encode_bit_res_set b x
  refine ⟨bytesRes, bytesSet, _, _, fun k hk => getLsbD_clearBit (s.operand x) b hk,
    fun k _ => getLsbD_raiseBit (s.operand x) b k, (exec_row (.res b x) s).trans ?_, (exec_row (.set b x) s).trans ?_⟩
  · exact retire_writeBackR8 x 2 _ (· &&& ~~~((1 : Byte) <<< b.val)) s
  · exact retire_writeBackR8 x 2 _ (· ||| (1 : Byte) <<< b.val) s

end Sys2Proof.Machine
end

section
/-! The family of 47_jump_call.md: jumps, calls, restarts and returns. -/

namespace Sys2Proof.Machine

/-! ## Conditional rows -/

/-- A conditional row does what its taken branch does, or moves only PC and the cycles (R322, R325, R327, R329). -/
theorem retireIf_eq (cc : Cond) {len cyclesTaken : Nat} (cyclesNot : Nat) {taken : State → State} {s t : State}
    (h : retire len cyclesTaken taken s = .next t) :
    retireIf cc len cyclesTaken cyclesNot taken s = .next (if s.cond cc then t else s.past len cyclesNot) :=
  (if_congr Iff.rfl h rfl).trans (apply_ite Host.Outcome.next _ _ _).symm

/-! ## Jumps (R320 to R325) -/

/-- Settles O25: each row is a jump with PC past its bytes, and the conditional ones share one case split on the condition. -/
theorem absoluteJumps : Obligations.AbsoluteJumps := fun w s =>
  ⟨⟨rfl, rfl, rfl, rfl⟩, rfl, rfl,
    fun cc => ⟨by cases cc <;> rfl, (exec_row (.jpCc cc w) s).trans (retireIf_eq cc 12 rfl)⟩, rfl, rfl⟩

/-- The target of a relative jump on integers: the address after the two bytes, plus the signed byte, mod 2^16 (R324). -/
theorem ofInt_relative_target (pc : Word) (e : Byte) :
    BitVec.ofInt 16 (pc.toNat + 2 + (if e.toNat < 128 then (e.toNat : Int) else e.toNat - 256)) = pc + 2 + sext8 e := by
  rw [add_right_comm, BitVec.ofInt_add, ofInt_add_signed]
  exact add_right_comm pc (sext8 e) 2

/-- Settles O26: the offset counts from the address after the two bytes, the sum being the one on integers. -/
theorem relativeJumps : Obligations.RelativeJumps := by
  intro e s
  simp only [ofInt_relative_target]
  exact ⟨rfl, rfl, fun cc => ⟨by cases cc <;> rfl, (exec_row (.jrCc cc e) s).trans (retireIf_eq cc 8 rfl)⟩⟩

/-! ## Calls and returns (R326 to R331) -/

/-- Settles O27: all 13 rows are the one call of `retire_callTo`. -/
theorem callsAndRestarts : Obligations.CallsAndRestarts := fun s =>
  ⟨fun w => ⟨rfl, retire_callTo 3 24 w s⟩,
    fun cc w => ⟨by cases cc <;> rfl, (exec_row (.callCc cc w) s).trans (retireIf_eq cc 12 (retire_callTo 3 24 w s))⟩,
    fun t => ⟨by fin_cases t <;> rfl, (exec_row (.rst t) s).trans (retire_callTo 1 16 _ s)⟩⟩

/-- Settles O28: all 5 rows are the one return of `retire_returnFrom`. -/
theorem returns : Obligations.Returns := fun s =>
  ⟨rfl, retire_returnFrom 1 16 s,
    fun cc => ⟨by cases cc <;> rfl, (exec_row (.retCc cc) s).trans (retireIf_eq cc 8 (retire_returnFrom 1 20 s))⟩⟩

/-- A return from an interrupt is a return that then sets IME and absorbs a pending EI (R330, D31). -/
theorem retire_returnFromInterrupt {len cycles : Nat} {s t : State} (h : retire len cycles returnFrom s = .next t) :
    retire len cycles returnFromInterrupt s = .next { t with ime := true, imeSched := false } := by
  rw [← Host.Outcome.next.inj h]; rfl

/-- Settles O30: `RETI` has the length and cycles of `RET`. (The name `returnFromInterrupt` is the model's operation.) -/
theorem reti_returnFromInterrupt : Obligations.ReturnFromInterrupt := fun s =>
  ⟨rfl, retire_returnFromInterrupt (retire_returnFrom 1 16 s)⟩

end Sys2Proof.Machine
end

section
/-! The family of 30_encoding.md, the round trip: where each row stands in the opcode pages, and that it decodes from there. -/

namespace Sys2Proof.Machine

/-! ## Where a row stands (R132, R133) -/

/-- The instruction stands in the opcode pages: alone at a first byte, with its operand at a first byte that calls for one, or at
a byte of the second page (R120, R132, R133). -/
inductive Placed : Instr → Prop where
  | op {b : Byte} {i : Instr} (h : slotOf b = .op i) : Placed i
  | byte {b : Byte} {f : Byte → Instr} (n : Byte) (h : slotOf b = .byte f) : Placed (f n)
  | word {b : Byte} {f : Word → Instr} (w : Word) (h : slotOf b = .word f) : Placed (f w)
  | second (b : Byte) {i : Instr} (h : cbInstr b = i) : Placed i

/-- What stands in the pages decodes from its encoding: the encoder gives each place its own bytes. -/
theorem Placed.decode_encode {i : Instr} (h : Placed i) (rest : List Byte) : decode (encode i ++ rest) = .ok (i, rest) := by
  cases h with
  | @op b _ h =>
    have enc : encode i = [b] := (h ▸ slotOf_encodes b : (Slot.op i).encodesAt b)
    simp only [enc, List.singleton_append, decode, h]
  | @byte b f n h =>
    have enc : ∀ n, encode (f n) = [b, n] := (h ▸ slotOf_encodes b : (Slot.byte f).encodesAt b)
    simp only [enc, List.cons_append, List.nil_append, decode, h]
  | @word b f w h =>
    have enc : ∀ w, encode (f w) = [b, loByte w, hiByte w] := (h ▸ slotOf_encodes b : (Slot.word f).encodesAt b)
    simp only [enc, List.cons_append, List.nil_append, decode, h, wordOf_hiByte_loByte]
  | second b h =>
    subst h
    rw [(cbInstr_encodes b).1]
    exact decode_second b rest

/-- Every row but the bare 0xCB stands in the pages, at the byte its tables give (R124 to R129, R132, R133). -/
theorem Form.placed (f : Form) (hf : f ≠ .prefixCb) : Placed f.row := by
  cases f with
  | prefixCb => exact absurd rfl hf
  | nop => exact .op (b := 0x00) rfl
  | halt => exact .op (b := 0x76) rfl
  | di => exact .op (b := 0xF3) rfl
  | ei => exact .op (b := 0xFB) rfl
  | ldMemBcA => exact .op (b := 0x02) rfl
  | ldAMemBc => exact .op (b := 0x0A) rfl
  | ldMemDeA => exact .op (b := 0x12) rfl
  | ldAMemDe => exact .op (b := 0x1A) rfl
  | ldMemHlIncA => exact .op (b := 0x22) rfl
  | ldAMemHlInc => exact .op (b := 0x2A) rfl
  | ldMemHlDecA => exact .op (b := 0x32) rfl
  | ldAMemHlDec => exact .op (b := 0x3A) rfl
  | rlca => exact .op (b := 0x07) rfl
  | rrca => exact .op (b := 0x0F) rfl
  | rla => exact .op (b := 0x17) rfl
  | rra => exact .op (b := 0x1F) rfl
  | daa => exact .op (b := 0x27) rfl
  | cpl => exact .op (b := 0x2F) rfl
  | scf => exact .op (b := 0x37) rfl
  | ccf => exact .op (b := 0x3F) rfl
  | ret => exact .op (b := 0xC9) rfl
  | reti => exact .op (b := 0xD9) rfl
  | ldMemCA => exact .op (b := 0xE2) rfl
  | ldAMemC => exact .op (b := 0xF2) rfl
  | jpMemHl => exact .op (b := 0xE9) rfl
  | ldSpHl => exact .op (b := 0xF9) rfl
  | stop n => exact .byte (b := 0x10) n rfl
  | jrR8 n => exact .byte (b := 0x18) n rfl
  | ldMemHlD8 n => exact .byte (b := 0x36) n rfl
  | ldhMemA8A n => exact .byte (b := 0xE0) n rfl
  | ldhAMemA8 n => exact .byte (b := 0xF0) n rfl
  | addSpR8 n => exact .byte (b := 0xE8) n rfl
  | ldHlSpPlusR8 n => exact .byte (b := 0xF8) n rfl
  | ldMemA16Sp w => exact .word (b := 0x08) w rfl
  | jpA16 w => exact .word (b := 0xC3) w rfl
  | callA16 w => exact .word (b := 0xCD) w rfl
  | ldMemA16A w => exact .word (b := 0xEA) w rfl
  | ldAMemA16 w => exact .word (b := 0xFA) w rfl
  | ldRegReg x y => exact .op (b := BitVec.ofNat 8 (0x40 + 8 * x.code + y.code)) (by cases x <;> cases y <;> rfl)
  | ldRegMemHl x => exact .op (b := BitVec.ofNat 8 (0x46 + 8 * x.code)) (by cases x <;> rfl)
  | ldMemHlReg x => exact .op (b := BitVec.ofNat 8 (0x70 + x.code)) (by cases x <;> rfl)
  | inc x => exact .op (b := BitVec.ofNat 8 (0x04 + 8 * x.code)) (by rcases x with (_ | _ | _ | _ | _ | _ | _) | _ <;> rfl)
  | dec x => exact .op (b := BitVec.ofNat 8 (0x05 + 8 * x.code)) (by rcases x with (_ | _ | _ | _ | _ | _ | _) | _ <;> rfl)
  | alu op x =>
    exact .op (b := BitVec.ofNat 8 (0x80 + 8 * op.code + x.code)) <| by
      cases op <;> rcases x with (_ | _ | _ | _ | _ | _ | _) | _ <;> rfl
  | incPair p => exact .op (b := BitVec.ofNat 8 (0x03 + 16 * p.code)) (by cases p <;> rfl)
  | decPair p => exact .op (b := BitVec.ofNat 8 (0x0B + 16 * p.code)) (by cases p <;> rfl)
  | addHl p => exact .op (b := BitVec.ofNat 8 (0x09 + 16 * p.code)) (by cases p <;> rfl)
  | push p => exact .op (b := BitVec.ofNat 8 (0xC5 + 16 * p.code)) (by cases p <;> rfl)
  | pop p => exact .op (b := BitVec.ofNat 8 (0xC1 + 16 * p.code)) (by cases p <;> rfl)
  | retCc cc => exact .op (b := BitVec.ofNat 8 (0xC0 + 8 * cc.code)) (by cases cc <;> rfl)
  | rst t => exact .op (b := BitVec.ofNat 8 (0xC7 + 8 * t.val)) (by fin_cases t <;> rfl)
  | undefined u => exact .op (b := u.byte) (by cases u <;> rfl)
  | ldRegD8 r n => exact .byte (b := BitVec.ofNat 8 (0x06 + 8 * r.code)) (f := Row.ldRegD8 r) n (by cases r <;> rfl)
  | aluD8 op n => exact .byte (b := BitVec.ofNat 8 (0xC6 + 8 * op.code)) (f := Row.aluD8 op) n (by cases op <;> rfl)
  | jrCc cc n => exact .byte (b := BitVec.ofNat 8 (0x20 + 8 * cc.code)) (f := Row.jrCc cc) n (by cases cc <;> rfl)
  | jpCc cc w => exact .word (b := BitVec.ofNat 8 (0xC2 + 8 * cc.code)) (f := Row.jpCc cc) w (by cases cc <;> rfl)
  | callCc cc w => exact .word (b := BitVec.ofNat 8 (0xC4 + 8 * cc.code)) (f := Row.callCc cc) w (by cases cc <;> rfl)
  | ldPairD16 p w => exact .word (b := BitVec.ofNat 8 (0x01 + 16 * p.code)) (f := Row.ldPairD16 p) w (by cases p <;> rfl)
  | cbRot op x =>
    exact .second (BitVec.ofNat 8 (8 * op.code + x.code)) <| by
      cases op <;> rcases x with (_ | _ | _ | _ | _ | _ | _) | _ <;> rfl
  | bit k x =>
    exact .second (BitVec.ofNat 8 (0x40 + 8 * k.val + x.code)) <| by
      fin_cases k <;> rcases x with (_ | _ | _ | _ | _ | _ | _) | _ <;> rfl
  | res k x =>
    exact .second (BitVec.ofNat 8 (0x80 + 8 * k.val + x.code)) <| by
      fin_cases k <;> rcases x with (_ | _ | _ | _ | _ | _ | _) | _ <;> rfl
  | set k x =>
    exact .second (BitVec.ofNat 8 (0xC0 + 8 * k.val + x.code)) <| by
      fin_cases k <;> rcases x with (_ | _ | _ | _ | _ | _ | _) | _ <;> rfl

/-! ## The statements -/

/-- A whole instruction is no bare 0xCB, and its row stands in the pages. -/
theorem Placed.of_wellFormed {i : Instr} (h : i.wellFormed = true) : Placed i := by
  rw [← Instr.row_form i]
  refine Form.placed _ fun hp => ?_
  rw [Instr.wellFormed, hp] at h
  cases h

/-- Settles O1: a whole instruction stands in the opcode pages, and what stands there decodes from its encoding. -/
theorem encodedInstructionDecodesBack : Obligations.EncodedInstructionDecodesBack :=
  fun _ rest h => (Placed.of_wellFormed h).decode_encode rest

/-- Settles O2: the decoder takes no byte but those its slot encodes. -/
theorem decodedBytesEncodeBack : Obligations.DecodedBytesEncodeBack := fun _ _ _ h => encode_append_of_decode h

end Sys2Proof.Machine
end

section
/-! The family of 48_control_misc.md and 60_exceptions.md, the CPU: control instructions, the undefined bytes, the interrupt check, the
run states, and how a step ends. -/

namespace Sys2Proof.Machine

/-! ## Rows (R350 to R355, R490, R491) -/

/-- Settles O31: each row is its own operation. -/
theorem controlInstructions : Obligations.ControlInstructions :=
  fun _ => ⟨rfl, rfl, rfl, rfl, fun _ => ⟨rfl, rfl⟩, rfl, rfl, rfl, rfl⟩

/-- Settles O37: the cycles of the form's effect. -/
theorem everyInstructionAnswers : Obligations.EveryInstructionAnswers := by
  intro f s
  obtain ⟨t, ht, -⟩ := exec_effect f s
  obtain ⟨a, e⟩ := effect_of_exec ht
  exact ⟨t, ht, e.cycles.trans (congrArg₂ _ (s.touch_cycleCounter a) (cycles_touch _ s a))⟩

/-- A FAULTED machine answers its record, whatever the host's input (R400 step 1, U2). -/
theorem machineStep_faulted {ie : Bool} {s : State} (h : s.runState = .faulted) :
    machineStep ie s = .fault (recordedFault s) := by
  have hr : (takeButton s).2.runState = .faulted := by rw [takeButton_snd]; exact h
  rw [machineStep_eq, systemStep, cpuStep_faulted _ _ hr, takeButton_snd]; rfl

/-- Settles O32: the row raises the fault with its own byte, and the next step answers the record. -/
theorem undefinedByteFaults : Obligations.UndefinedByteFaults := fun u s =>
  ⟨encode_undefined u, _, exec_row (.undefined u) s, rfl, machineStep_faulted rfl⟩

/-! ## The interrupt check (R420, R421) -/

/-- No interrupt is taken with IME clear, or without a request in bits 0 to 4 that is enabled too (R420, D19). -/
theorem State.interrupt_eq_none {s : State}
    (h : s.ime = false ∨ ∀ k < 5, (s.ifReg.getLsbD k && s.ieReg.getLsbD k) = false) : s.interrupt = none := by
  unfold State.interrupt
  split
  · next ime =>
    have requests := h.resolve_left (by rw [ime]; decide)
    exact (lowestBit_eq_none _).mpr fun k hk => (pending_getLsbD s hk).trans (requests k hk)
  · rfl

/-- With IME set the lowest request is taken that is pending and enabled (R421). -/
theorem State.interrupt_eq_some {s : State} {k : Nat} (ime : s.ime = true) (hk : k < 5)
    (request : (s.ifReg.getLsbD k && s.ieReg.getLsbD k) = true)
    (lower : ∀ j < k, (s.ifReg.getLsbD j && s.ieReg.getLsbD j) = false) : s.interrupt = some k := by
  rw [State.interrupt, if_pos ime]
  exact lowestBit_eq_some hk ((pending_getLsbD s hk).trans request)
    fun j hj => (pending_getLsbD s (hj.trans hk)).trans (lower j hj)

/-- A RUNNING CPU that takes no interrupt runs the instruction at PC (R400 steps 5 to 7). -/
theorem cpuStep_of_no_interrupt {s : State} (ie b : Bool) (hr : s.runState = .running) (hi : s.interrupt = none) :
    cpuStep ie b s = exec (fetchInstr (promoteEi s)).1 (fetchInstr (promoteEi s)).2 := by
  rw [cpuStep_running ie b hr, runningStep, hi]; rfl

/-- Settles O43: nothing is taken, so the instruction at PC runs. -/
theorem noInterruptWithoutRequest : Obligations.NoInterruptWithoutRequest :=
  fun _ ie b hr h => cpuStep_of_no_interrupt ie b hr (State.interrupt_eq_none h)

/-- Settles O44: IME is set by the pending EI only after the interrupt check. -/
theorem enableTakesEffectAfterNext : Obligations.EnableTakesEffectAfterNext := by
  intro s ie b hr ime sched
  have promoted : promoteEi s = { s with ime := true, imeSched := false } := by rw [promoteEi, if_pos sched]
  rw [cpuStep_of_no_interrupt ie b hr (State.interrupt_eq_none (.inl ime)), promoted]

/-- Settles O42: the record update of `takeInterrupt_nf` is a push of PC, then a jump to the vector. -/
theorem interruptDispatch : Obligations.InterruptDispatch := by
  intro s k ie b hr ime hk hif hie lower
  have taken := State.interrupt_eq_some ime hk (by rw [hif, hie]; rfl) lower
  have vector : (0x0040 + 8 * BitVec.ofNat 16 k : Word) = BitVec.ofNat 16 (0x40 + 8 * k) := by
    rw [BitVec.ofNat_add, BitVec.ofNat_mul]; rfl
  rw [cpuStep_running ie b hr, runningStep, taken]
  simp only [takeInterrupt_nf, vector, State.afterPush, writeByte_nf]; rfl

/-! ## HALTED and STOPPED (R403, R404) -/

/-- Settles O45: the cases of `cpuStep_halted` by `haltWake_iff`, and those of `cpuStep_stopped`. -/
theorem idlesUntilWoken : Obligations.IdlesUntilWoken := by
  intro s ie b wakes
  have woken : cpuStep ie b { s with runState := .running } = runningStep { s with runState := .running } :=
    cpuStep_running ie b rfl
  refine ⟨fun hr asleep => ?_, fun hr wake => ?_, fun hr hb => ?_, fun hr hb => ?_, rfl⟩
  · have noWake : ¬haltWake ie s = true := fun h => by
      obtain ⟨k, hk, hw⟩ := (haltWake_iff ie s).mp h
      exact absurd hw (Bool.eq_false_iff.mp (asleep k hk))
    rw [cpuStep_halted ie b hr, if_neg noWake]; rfl
  · rw [woken, cpuStep_halted ie b hr, if_pos ((haltWake_iff ie s).mpr wake)]
  · rw [cpuStep_stopped ie b hr, hb]; rfl
  · rw [woken, cpuStep_stopped ie b hr, hb]; rfl

/-! ## How a step ends (R400, R410, R411) -/

/-- The figures of the cycle tables (R490, R491). -/
def listedCycles : List Nat := [4, 8, 12, 16, 20, 24]

/-- Every form but the undefined bytes and the bare 0xCB has one of the listed figures (R490, R491). -/
theorem Form.cycles_mem {f : Form} (hp : f ≠ .prefixCb) (hu : ∀ u, f ≠ .undefined u) (s : State) :
    f.cycles s ∈ listedCycles := by
  cases f with
  | prefixCb => exact absurd rfl hp
  | undefined u => exact absurd rfl (hu u)
  | alu _ x | inc x | dec x | cbRot _ x | bit _ x | res _ x | set _ x => cases x <;> (dsimp only [Form.cycles, r8Cycles]; decide)
  | jrCc cc _ | jpCc cc _ | callCc cc _ | retCc cc => dsimp only [Form.cycles]; split <;> decide
  | _ => dsimp only [Form.cycles]; decide

/-- From `s` a CPU step ran into an undefined byte: the record is that of the byte at PC, and PC and the cycle counter stay. -/
structure RanIntoUndefined (s t : State) : Prop where
  run : t.runState = .faulted
  pc : t.pc = s.pc
  cycles : t.cycleCounter = s.cycleCounter
  record : ∃ u : Undefined, t.fault = some ⟨s.pc, u.byte⟩ ∧ s.peek s.pc = u.byte

/-- The delayed effect of an EI is no part of what is read. -/
theorem State.peek_promoteEi (s : State) (a : Word) : (promoteEi s).peek a = s.peek a := by
  rw [promoteEi_eq]
  exact State.peek_congr (fun _ => rfl) rfl rfl (fun _ _ => rfl) (.inl rfl)

/-- Nor is the host's input. -/
theorem State.peek_takeButton (s : State) (a : Word) : (takeButton s).2.peek a = s.peek a := by
  rw [takeButton_snd]
  exact State.peek_congr (fun _ => rfl) rfl rfl (fun _ _ => rfl) (.inl rfl)

/-- From `s` to `t` a CPU step that did not fault: it counted one of the listed figures. -/
def CountsListed (s t : State) : Prop := t.runState ≠ .faulted ∧ ∃ n ∈ listedCycles, t.cycleCounter = s.cycleCounter + n

/-- An instruction counts a listed figure, or is an undefined byte. -/
theorem runInstruction_ends {s t : State} (hr : s.runState ≠ .faulted) (ht : runInstruction s = .next t) :
    CountsListed s t ∨ RanIntoUndefined s t := by
  obtain ⟨f, d, u, hu, hp, e, undef⟩ := runInstruction_effect s
  obtain rfl : t = u := Host.Outcome.next.inj (ht.symm.trans hu)
  by_cases hf : ∃ u, f = .undefined u
  · obtain ⟨u, rfl⟩ := hf
    obtain ⟨byte, rfl⟩ := undef u rfl
    rw [State.peek_promoteEi, promoteEi_eq] at byte
    rw [promoteEi_eq]
    exact .inr ⟨rfl, rfl, rfl, u, rfl, byte⟩
  · have run := e.run
    have cycles := e.cycles
    rw [promoteEi_eq] at run cycles
    exact .inl ⟨fun h => hf (runAfter_faulted (run ▸ h) hr), _, Form.cycles_mem hp (fun u hu => hf ⟨u, hu⟩) _, cycles⟩

/-- A CPU step that answers counts a listed figure, or ran into an undefined byte. -/
theorem cpuStep_ends {ie b : Bool} {s t : State} (ht : cpuStep ie b s = .next t) : CountsListed s t ∨ RanIntoUndefined s t := by
  cases cpuStep_move ht with
  | idle h ht =>
    subst ht
    refine .inl ⟨?_, 4, by decide, rfl⟩
    rcases h with h | h <;> rw [idle_runState, h] <;> decide
  | interrupt k _ _ ht =>
    rw [ht, takeInterrupt_nf]
    exact .inl ⟨by simp, 20, by decide, rfl⟩
  | ran h ht =>
    rcases runInstruction_ends (by simp) ht with hf | ⟨run, pc, cycles, record⟩
    · exact .inl hf
    · exact .inr ⟨run, pc, cycles, record⟩

/-- Settles O46: the two ways a step ends. -/
theorem stepReturnsListedCycles : Obligations.StepReturnsListedCycles := by
  intro s t ie b ht
  rcases cpuStep_ends ht with ⟨hr, n, hn, hc⟩ | h
  · refine ⟨fun _ => ⟨?_, by omega⟩, fun hf => absurd hf hr⟩
    rwa [hc, Nat.add_sub_cancel_left]
  · exact ⟨fun hr => absurd h.run hr, fun _ => ⟨h.cycles, h.pc⟩⟩

/-! ## The system step (R450) -/

/-- A system step is the CPU step, then the LCD controller's by the cycles counted, but after a fault (R450, D26). -/
theorem systemStep_of_next {ie b : Bool} {s t : State} (h : cpuStep ie b s = .next t) :
    systemStep ie b s = .next (if t.runState = .faulted then t else lcdStep (t.cycleCounter - s.cycleCounter) t) := by
  rw [systemStep, h]
  cases hr : t.runState <;> simp only [hr, reduceCtorEq, if_true, if_false]

/-- Settles O53: the two branches of `systemStep_of_next`. -/
theorem lockStepWithLcd : Obligations.LockStepWithLcd := by
  intro s t ie b ht
  rw [systemStep_of_next ht]
  exact ⟨fun hr => by rw [if_neg hr], fun hr => by rw [if_pos hr]⟩

/-- Settles O6: what is fetched is what the bytes at PC decode to, and a row always answers. -/
theorem stepRunsDecodedInstruction : Obligations.StepRunsDecodedInstruction := by
  intro s i rest hr hi _ hd
  have input : (takeButton s).2.runState = .running ∧ (takeButton s).2.interrupt = none ∧
      (promoteEi (takeButton s).2).pc = s.pc ∧ (takeButton s).2.cycleCounter = s.cycleCounter := by
    rw [promoteEi_eq, takeButton_snd]; exact ⟨hr, hi, rfl, rfl⟩
  obtain ⟨running, quiet, pc, cycles⟩ := input
  have fetched := fetchInstr_of_decode (s := promoteEi (takeButton s).2) (pc.symm ▸ hd)
  rw [pc] at fetched
  obtain ⟨t, ht, -⟩ := exec_effect i.form (fetchBytes (encode i).length s.pc (promoteEi (takeButton s).2)).2
  rw [Instr.row_form] at ht
  have cpu : cpuStep haltWakeNeedsIe (takeButton s).1 (takeButton s).2 = .next t := by
    rw [cpuStep_of_no_interrupt _ _ running quiet, fetched]; exact ht
  rw [step_eq, systemStep_of_next cpu, cycles, ht]
  exact apply_ite Host.Outcome.next _ _ _

/-- Settles O47: a CPU that is not FAULTED steps, and of the ways a step ends only an undefined byte leaves FAULTED, which the LCD
controller does not follow. -/
theorem onlyUndefinedBytesFault : Obligations.OnlyUndefinedBytesFault := by
  intro s hr
  have input : (takeButton s).2.runState ≠ .faulted ∧ (takeButton s).2.pc = s.pc := by
    rw [takeButton_snd]; exact ⟨hr, rfl⟩
  obtain ⟨t, ht⟩ := cpuStep_answers haltWakeNeedsIe (takeButton s).1 input.1
  refine ⟨_, (step_eq s).trans (systemStep_of_next ht), ?_⟩
  rcases cpuStep_ends ht with ⟨hnf, -⟩ | h
  · rw [if_neg hnf, lcdStep_eq]
    exact fun hf => absurd hf hnf
  · obtain ⟨u, record, byte⟩ := h.record
    rw [if_pos h.run]
    rw [input.2] at record
    rw [State.peek_takeButton, input.2, ← State.peek_promoteEi] at byte
    exact fun _ => ⟨u.byte, record, h.pc.trans input.2, byte.symm, (mem_undefined_bytes _).mpr ⟨u, rfl⟩⟩

end Sys2Proof.Machine
end

section
/-! The family of 60_exceptions.md, the LCD controller: the scanline schedule, tiles, the background and the frame. -/

namespace Sys2Proof.Machine

/-! ## The scanline schedule (R440 to R442) -/

/-- Settles O48: `LcdStep` accumulates the cycles, then passes the whole lines among them. -/
theorem scanlineSchedule : Obligations.ScanlineSchedule := by
  intro n s hm hly
  exact ⟨lcdLines_ly (s := { s with lcdAcc := (s.lcdAcc + n) % 456 }) _ hm hly, congrArg State.lcdAcc (lcdStep_eq n s),
    lcdLines_frameReady (s := { s with lcdAcc := (s.lcdAcc + n) % 456 }) _ hm hly⟩

/-- A CPU write to LY leaves IF: it is another cell (R92, R441). -/
theorem ifReg_writeByte_ly {s : State} (hm : Memory.wf s.ram) (v : Byte) : (writeByte 0xFF44 v s).ifReg = s.ifReg := by
  rw [State.ifReg, writeByte_ram, cellOf_self (by decide)]
  exact (Memory.load_store hm.1 _ _ _).trans (if_neg (by decide))

/-- Settles O49: bit 0 by the lines passed, the others kept. -/
theorem vblankRequest : Obligations.VblankRequest := by
  intro n s hm hly
  exact ⟨lcdLines_vblank (s := { s with lcdAcc := (s.lcdAcc + n) % 456 }) _ hm hly, fun k hk => lcdStep_ifReg n hm hk,
    ifReg_writeByte_ly hm⟩

/-! ## Tiles (R443) -/

/-- A read of VRAM through the bus is the byte at its offset (R76, R106). -/
theorem State.peek_vram (s : State) {a : Word} (h : 0x8000 ≤ a.toNat ∧ a.toNat < 0xA000) :
    s.peek a = s.vram (a.toNat - 0x8000) := by
  rw [State.peek_of_cell (cellOf_self (.inl h)), State.vram, Nat.add_sub_cancel' h.1]

/-- A pixel's two bits, the high plane's above the low plane's. -/
theorem tilePixel_toNat (lo hi : Byte) (c : Nat) :
    (tilePixel lo hi c).toNat = 2 * (hi.getLsbD (7 - c)).toNat + (lo.getLsbD (7 - c)).toNat := by
  unfold tilePixel
  cases hi.getLsbD (7 - c) <;> cases lo.getLsbD (7 - c) <;> rfl

/-- Blocks of eight one after another: entry `c` of block `r` is at `8 * r + c`. -/
theorem getElem?_flatMap_blocks {α : Type} {block : Nat → List α} (size : ∀ r, (block r).length = 8) {n r c : Nat}
    (hr : r < n) (hc : c < 8) : ((List.range n).flatMap block)[8 * r + c]? = (block r)[c]? := by
  have total : ∀ m, ((List.range m).flatMap block).length = 8 * m := fun m => by
    simp [List.length_flatMap, size, Nat.mul_comm]
  induction n with
  | zero => omega
  | succ n ih =>
    rw [List.range_succ, List.flatMap_append, List.flatMap_singleton]
    by_cases h : r < n
    · rw [List.getElem?_append_left (by rw [total]; omega), ih h]
    · obtain rfl : r = n := by omega
      rw [List.getElem?_append_right (by rw [total]; omega), total, Nat.add_sub_cancel_left]

theorem tileRow_length (s : State) (base r : Nat) : (tileRow s base r).length = 8 := by simp [tileRow]

theorem decodeTile_length (s : State) (base : Nat) : (decodeTile s base).length = 64 := by
  simp [decodeTile, List.length_flatMap, tileRow_length]

/-- A tile's pixels, row by row (R443). -/
theorem decodeTile_getElem? (s : State) (base : Nat) {r c : Nat} (hr : r < 8) (hc : c < 8) :
    (decodeTile s base)[8 * r + c]? =
      some (tilePixel (s.vram (base - 0x8000 + 2 * r)) (s.vram (base - 0x8000 + 2 * r + 1)) c) := by
  rw [decodeTile, getElem?_flatMap_blocks (tileRow_length s base) hr hc, tileRow, List.getElem?_map, List.getElem?_range hc]
  rfl

/-- Settles O51: the pixel's two planes are bytes of VRAM, which the bus reads at their own addresses. -/
theorem tileDecode : Obligations.TileDecode := by
  intro s base hlo hhi
  refine ⟨decodeTile_length s base.toNat, fun r hr c hc => ⟨_, decodeTile_getElem? s base.toNat hr hc, ?_⟩⟩
  have byte : ∀ k < 16, s.peek (base + BitVec.ofNat 16 k) = s.vram (base.toNat - 0x8000 + k) := fun k hk => by
    have addr : (base + BitVec.ofNat 16 k).toNat = base.toNat + k := by
      rw [BitVec.toNat_add, BitVec.toNat_ofNat]; omega
    rw [State.peek_vram s (by omega), addr, Nat.sub_add_comm hlo]
  rw [byte _ (by omega), byte _ (by omega), tilePixel_toNat, Nat.add_assoc]

/-! ## The background and the frame (R444, R445) -/

/-- An entry of a picture given by a function of row and column. -/
theorem picture_getElem? {α : Type} (pixel : Nat → Nat → α) {rows cols row col : Nat} (hr : row < rows) (hc : col < cols) :
    ∃ pixels, ((List.range rows).map fun y => (List.range cols).map fun x => pixel y x)[row]? = some pixels ∧
      pixels[col]? = some (pixel row col) ∧ pixels.length = cols :=
  ⟨(List.range cols).map (pixel row), by simp [hr], by simp [hc], by simp⟩

/-- The tile of a map entry, named through the bus (R444). -/
theorem tileBase_eq (s : State) {ex ey : Nat} (hx : ex < 32) (hy : ey < 32) :
    tileBase s ex ey = 0x8000 + 16 * (s.peek (BitVec.ofNat 16 (0x9800 + 32 * ey + ex))).toNat := by
  have addr : (BitVec.ofNat 16 (0x9800 + 32 * ey + ex)).toNat = 0x8000 + (0x1800 + 32 * ey + ex) := by
    rw [BitVec.toNat_ofNat]; omega
  rw [State.peek_vram s (by omega), addr, Nat.add_sub_cancel_left, tileBase]

/-- A background pixel is one of the tile that covers it (R444). -/
theorem bgPixel_eq (s : State) {row col : Nat} (hr : row < 256) (hc : col < 256) :
    (decodeTile s (0x8000 + 16 * (s.peek (BitVec.ofNat 16 (0x9800 + 32 * (row / 8) + col / 8))).toNat))[
      8 * (row % 8) + col % 8]? = some (bgPixel s row col) := by
  rw [← tileBase_eq s (by omega) (by omega), bgPixel, List.getD_eq_getElem?_getD,
    decodeTile_getElem? s _ (Nat.mod_lt row (by decide)) (Nat.mod_lt col (by decide))]
  rfl

/-- Settles O52: both pictures are given by a function of row and column, the frame's being the background's at the origin. -/
theorem frameIsWindowOfBackground : Obligations.FrameIsWindowOfBackground := by
  intro s
  have scy : s.peek 0xFF42 = s.scy := State.peek_of_cell (cellOf_self (by decide))
  have scx : s.peek 0xFF43 = s.scx := State.peek_of_cell (cellOf_self (by decide))
  refine ⟨by simp [composeBackground], by simp [frame], fun row hr col hc => ?_, fun y hy x hx => ?_⟩
  · obtain ⟨pixels, inPicture, inRow, size⟩ := picture_getElem? (bgPixel s) hr hc
    exact ⟨pixels, _, inPicture, inRow, size, bgPixel_eq s hr hc⟩
  · obtain ⟨pixels, inFrame, inRow, size⟩ := picture_getElem? (framePixel s) hy hx
    obtain ⟨bgPixels, inPicture, inBgRow, -⟩ := picture_getElem? (bgPixel s)
      (Nat.mod_lt (s.scy.toNat + y) (by decide : 256 > 0)) (Nat.mod_lt (s.scx.toNat + x) (by decide : 256 > 0))
    exact ⟨pixels, bgPixels, _, inFrame, inRow, size, scy ▸ inPicture, scx ▸ inBgRow⟩

end Sys2Proof.Machine
end

section
/-! The family of 60_exceptions.md, the Machine: `frame_step` ends. -/

namespace Sys2Proof.Machine

/-! ## One counted step -/

/-- From `s` to `t` the cycles counted count towards the frame, none being taken back (R451). -/
structure Counted (s t : State) : Prop where
  le : s.cycleCounter ≤ t.cycleCounter
  frame : s.cyclesThisFrame + (t.cycleCounter - s.cycleCounter) = t.cyclesThisFrame

theorem Counted.trans {s t u : State} (h : Counted s t) (h' : Counted t u) : Counted s u := by
  obtain ⟨le, frame⟩ := h
  obtain ⟨le', frame'⟩ := h'
  exact ⟨le.trans le', by omega⟩

/-- The count is no part of the invariant. -/
theorem State.Inv.setFrameCycles {s : State} (h : s.Inv) (n : Nat) : { s with cyclesThisFrame := n }.Inv :=
  h.of_images rfl rfl h.flagsLow h.storage h.lcdAcc h.faultRecord

/-- No CPU step moves the frame's count (R48). -/
theorem cpuStep_cyclesThisFrame {ie b : Bool} {s t : State} (ht : cpuStep ie b s = .next t) :
    t.cyclesThisFrame = s.cyclesThisFrame := by
  cases cpuStep_move ht with
  | idle _ ht => rw [ht, idle_cyclesThisFrame]
  | interrupt k _ _ ht => rw [ht, takeInterrupt_nf]
  | ran _ ht =>
    obtain ⟨f, d, u, hu, -, e, -⟩ := runInstruction_effect { s with runState := .running }
    obtain rfl : t = u := Host.Outcome.next.inj (ht.symm.trans hu)
    have kept := e.cyclesThisFrame
    rwa [promoteEi_eq] at kept

/-- A machine that is not FAULTED takes a system step, which counts a listed figure, or runs into FAULTED and counts nothing. -/
theorem machineStep_answers (ie : Bool) {s : State} (hr : s.runState ≠ .faulted) :
    ∃ t, machineStep ie s = .next t ∧ t.cyclesThisFrame = s.cyclesThisFrame ∧
      ((∃ n ∈ listedCycles, t.cycleCounter = s.cycleCounter + n) ∨
        (t.runState = .faulted ∧ t.cycleCounter = s.cycleCounter)) := by
  have input : (takeButton s).2.runState ≠ .faulted ∧ (takeButton s).2.cycleCounter = s.cycleCounter ∧
      (takeButton s).2.cyclesThisFrame = s.cyclesThisFrame := by rw [takeButton_snd]; exact ⟨hr, rfl, rfl⟩
  obtain ⟨running, cycles, frame⟩ := input
  obtain ⟨t, ht⟩ := cpuStep_answers ie (takeButton s).1 running
  have kept := (cpuStep_cyclesThisFrame ht).trans frame
  refine ⟨_, (machineStep_eq ie s).trans (systemStep_of_next ht), ?_⟩
  rcases cpuStep_ends ht with ⟨hf, hn⟩ | hu
  · rw [if_neg hf, lcdStep_eq]
    exact ⟨kept, .inl (cycles ▸ hn)⟩
  · rw [if_pos hu.run]
    exact ⟨kept, .inr ⟨hu.run, hu.cycles.trans cycles⟩⟩

/-- So it takes a counted step, which keeps the invariant. -/
theorem countedStep_answers (ie : Bool) {s : State} (h : s.Inv) (hr : s.runState ≠ .faulted) :
    ∃ t, countedStep ie s = .next t ∧ t.Inv ∧ Counted s t ∧
      ((∃ n ∈ listedCycles, t.cyclesThisFrame = s.cyclesThisFrame + n) ∨
        (t.runState = .faulted ∧ t.cyclesThisFrame = s.cyclesThisFrame)) := by
  obtain ⟨t, ht, frame, cycles⟩ := machineStep_answers ie hr
  refine ⟨_, by rw [countedStep, ht], (h.machineStep ht).setFrameCycles _, ?_⟩
  rw [frame]
  rcases cycles with ⟨n, hn, hc⟩ | ⟨hf, hc⟩
  · exact ⟨⟨by simp only; omega, rfl⟩, .inl ⟨n, hn, by simp only; omega⟩⟩
  · exact ⟨⟨hc.ge, rfl⟩, .inr ⟨hf, by simp only; omega⟩⟩

/-- A FAULTED machine answers its record instead of a counted step. -/
theorem countedStep_faulted (ie : Bool) {s : State} (hr : s.runState = .faulted) :
    countedStep ie s = .fault (recordedFault s) := by
  rw [countedStep, machineStep_faulted hr]

/-- The record is there in FAULTED (R34). -/
theorem State.Inv.exists_record {s : State} (h : s.Inv) (hr : s.runState = .faulted) : ∃ r, s.fault = some r :=
  Option.isSome_iff_exists.mp (h.faultRecord.mp hr)

/-! ## The run of `frame_step` -/

/-- After `n` counted steps from `s`, each from an unfinished frame, the machine is in `u`. -/
structure FrameRun (ie : Bool) (s : State) (n : Nat) (u : State) : Prop where
  steps : countedSteps ie n s = .next u
  before : ∀ m < n, ∃ v, countedSteps ie m s = .next v ∧ v.cyclesThisFrame < frameCycles
  counted : Counted s u

theorem FrameRun.nil (ie : Bool) (s : State) : FrameRun ie s 0 s :=
  ⟨rfl, fun _ hm => absurd hm (Nat.not_lt_zero _), le_rfl, by omega⟩

theorem countedSteps_succ {ie : Bool} {s t : State} (ht : countedStep ie s = .next t) (n : Nat) :
    countedSteps ie (n + 1) s = countedSteps ie n t := by
  rw [countedSteps, ht]

theorem FrameRun.cons {ie : Bool} {s t u : State} {n : Nat} (ht : countedStep ie s = .next t) (hc : Counted s t)
    (hs : s.cyclesThisFrame < frameCycles) (h : FrameRun ie t n u) : FrameRun ie s (n + 1) u where
  steps := (countedSteps_succ ht n).trans h.steps
  before m hm := by
    cases m with
    | zero => exact ⟨s, rfl, hs⟩
    | succ m =>
      rw [countedSteps_succ ht]
      exact h.before m (Nat.lt_of_succ_lt_succ hm)
  counted := hc.trans h.counted

/-- How the loop ends in the state its run leads to: the frame is full, or it answers the record of FAULTED. -/
def LoopEnds (ie : Bool) (k : Nat) (s u : State) : Prop :=
  (frameLoop ie k s = .next u ∧ frameCycles ≤ u.cyclesThisFrame ∧ u.cyclesThisFrame ≤ frameCycles + 20 ∧
    u.cyclesThisFrame % 4 = 0) ∨
  (u.cyclesThisFrame < frameCycles ∧ u.runState = .faulted ∧ frameLoop ie k s = .fault (recordedFault u))

/-- A pass of the loop from an unfinished frame is a counted step. -/
theorem frameLoop_succ {ie : Bool} {s t : State} (hs : s.cyclesThisFrame < frameCycles) (ht : countedStep ie s = .next t)
    (k : Nat) : frameLoop ie (k + 1) s = frameLoop ie k t := by
  rw [frameLoop, if_neg (Nat.not_le.mpr hs), ht]

/-- In FAULTED a pass answers the record. -/
theorem frameLoop_faulted {ie : Bool} {s : State} (hs : s.cyclesThisFrame < frameCycles) (hr : s.runState = .faulted) (k : Nat) :
    frameLoop ie (k + 1) s = .fault (recordedFault s) := by
  rw [frameLoop, if_neg (Nat.not_le.mpr hs), countedStep_faulted ie hr]

theorem listedCycles_bounds : ∀ n ∈ listedCycles, 4 ≤ n ∧ n ≤ 24 ∧ n % 4 = 0 := by decide

/-- With passes enough for what is left of the frame at 4 cycles a step, and one more for a fault, the loop ends. -/
theorem frameLoop_ends (ie : Bool) (k : Nat) {s : State} (h : s.Inv) (whole : s.cyclesThisFrame % 4 = 0)
    (most : s.cyclesThisFrame ≤ frameCycles + 20) (enough : frameCycles + 4 ≤ s.cyclesThisFrame + 4 * k) :
    ∃ n u, FrameRun ie s n u ∧ u.Inv ∧ LoopEnds ie k s u := by
  induction k generalizing s with
  | zero => exact ⟨0, s, .nil ie s, h, .inl ⟨rfl, by omega, most, whole⟩⟩
  | succ k ih =>
    have figure : frameCycles = 70224 := rfl
    by_cases full : frameCycles ≤ s.cyclesThisFrame
    · exact ⟨0, s, .nil ie s, h, .inl ⟨by rw [frameLoop, if_pos full], full, most, whole⟩⟩
    have unfinished := Nat.not_le.mp full
    by_cases hr : s.runState = .faulted
    · exact ⟨0, s, .nil ie s, h, .inr ⟨unfinished, hr, frameLoop_faulted unfinished hr k⟩⟩
    obtain ⟨t, ht, inv, counted, ⟨c, hc, more⟩ | ⟨hf, same⟩⟩ := countedStep_answers ie h hr
    · obtain ⟨least, largest, four⟩ := listedCycles_bounds c hc
      obtain ⟨n, u, run, inv', ends⟩ := ih inv (by omega) (by omega) (by omega)
      exact ⟨n + 1, u, run.cons ht counted unfinished, inv', by rwa [LoopEnds, frameLoop_succ unfinished ht]⟩
    · obtain ⟨k, rfl⟩ : ∃ j, k = j + 1 := Nat.exists_eq_succ_of_ne_zero (by omega)
      refine ⟨1, t, (FrameRun.nil ie t).cons ht counted unfinished, inv, .inr ⟨same ▸ unfinished, hf, ?_⟩⟩
      rw [frameLoop_succ unfinished ht, frameLoop_faulted (same ▸ unfinished) hf]

/-- Settles O54: the passes of `frame_step` are enough from any unfinished frame. -/
theorem frameStepEnds : Obligations.FrameStepEnds := by
  intro ie s h unfinished whole
  have figure : frameCycles = 70224 := rfl
  have passes : framePasses = 17558 := rfl
  obtain ⟨n, u, run, inv, ends⟩ := frameLoop_ends ie framePasses h whole (by omega) (by omega)
  refine ⟨n, u, run.steps, run.before, ?_⟩
  obtain ⟨le, frame⟩ := run.counted
  rcases ends with ⟨loop, full, most, whole'⟩ | ⟨short, hr, loop⟩
  · refine .inl ⟨_, rfl, by rw [frameStep, loop]; rfl, le, ?_⟩
    simp only
    omega
  · obtain ⟨r, record⟩ := inv.exists_record hr
    have answer : recordedFault u = .illegalOpcode r.pc r.byte := by rw [recordedFault, record]
    exact .inr ⟨r.pc, r.byte, short, hr, record, by rw [frameStep, loop, answer]⟩

end Sys2Proof.Machine
end

section
/-! The family of 70_reset_and_hazards.md: the invariant at reset and launch. -/

namespace Sys2Proof.Machine

/-! ## The invariant at launch (R60, R474) -/

/-- What is left to show of a launch state, which is RUNNING and has no fault record. -/
theorem State.Inv.of_launch {s : State} (flags : s.f &&& 0x0F = 0) (storage : StorageInv s.ram s.bootUnmap)
    (boot : Image.wf s.bootRom ∧ ∀ x ∈ s.bootRom, x.1 < 256) (cart : Image.wf s.cart ∧ ∀ x ∈ s.cart, x.1 < 65536)
    (header : s.cartByte 0x0147 = 0x00 ∧ (s.cartByte 0x0148 = 0x00 ∨ s.cartByte 0x0148 = 0x01) ∧ s.cartByte 0x0149 = 0x00)
    (acc : s.lcdAcc < scanlineCycles) (running : s.runState = .running) (noRecord : s.fault = none) : s.Inv where
  flagsLow := flags
  ramWf := storage.wf
  ramAddr := storage.addr
  bootRomWf := boot.1
  cartWf := cart.1
  bootRomSize := boot.2
  cartSize := cart.2
  cartHeader := header
  lcdAcc := acc
  ly := storage.ly
  latch := storage.boot
  faultRecord := by rw [running, noRecord]; decide

/-- An image that lists nothing is in its form, whatever the size. -/
theorem Image.nil_wf (n : Nat) : Image.wf [] ∧ ∀ x ∈ ([] : Image), x.1 < n := ⟨.nil, by simp⟩

/-- The storage of a reset machine, for any `RAM_INIT` (R60). -/
theorem StorageInv.ramFrom (ramInit : List Host.Cell) : StorageInv (ramFrom ramInit) false where
  wf := ramFrom_wf ramInit
  addr x hx := by rw [storageAddr, ramFrom_addr ramInit x hx]; rfl
  ly := by rw [ramFrom_ly]; decide
  boot := by rw [ramFrom_boot]; exact fun h => by cases h

/-- A reset machine, for any `RAM_INIT` (R60, R470). -/
theorem State.Inv.resetWith (ramInit : List Host.Cell) : (State.resetWith ramInit).Inv :=
  .of_launch (by decide : (0x00 : Byte) &&& 0x0F = 0) (.ramFrom ramInit) (Image.nil_wf _) (Image.nil_wf _)
    (openCart_header rfl) (by decide : 0 < 456) rfl rfl

/-- The cold launch state, for any boot ROM and cartridge (R474 (a)). -/
theorem State.Inv.cold (ramInit : List Host.Cell) (bootRom : BootRom) (cart : Cartridge) :
    (State.cold ramInit bootRom cart).Inv := by
  have size : ∀ x ∈ imageFrom 0 bootRom.toList, x.1 < 256 := fun x hx => by
    simpa using (imageFrom_bounds _ _ x hx).2
  exact .of_launch (by decide : (0x00 : Byte) &&& 0x0F = 0) (.ramFrom ramInit) ⟨imageFrom_wf _ _, size⟩
    ⟨cart.image_wf, cart.image_size⟩ (cart.header_image (State.cold_cart ..)) (by decide : 0 < 456) rfl rfl

/-- LY after the boot program is the line it left (R474 (b)). -/
theorem load_postBootRam_ly (left : BootLeavings) : Memory.load (postBootRam left) lyAddr = BitVec.ofNat 8 left.ly :=
  (load_postBootRam left lyAddr).trans rfl

/-- The storage after the boot program, whatever it left (R473, R474). -/
theorem StorageInv.postBootRam (left : BootLeavings) : StorageInv (postBootRam left) true where
  wf := postBootRam_wf left
  addr := postBootRam_addr left
  ly := by
    have line := left.ly.isLt
    rw [load_postBootRam_ly, BitVec.toNat_ofNat]
    omega
  boot := fun _ => rfl

/-- The post-boot launch state, whatever the boot program left (R474 (b)). -/
theorem State.Inv.postBoot (left : BootLeavings) (cart : Cartridge) : (State.postBoot left cart).Inv :=
  .of_launch (by decide : (0xB0 : Byte) &&& 0x0F = 0)
    (by rw [State.postBoot_ram, State.postBoot_bootUnmap]; exact .postBootRam left) (Image.nil_wf _)
    (by rw [State.postBoot_cart]; exact ⟨cart.image_wf, cart.image_size⟩)
    (cart.header_image (State.postBoot_cart ..)) (by rw [State.postBoot_lcdAcc]; exact left.lcdAcc.isLt) rfl rfl

/-! ## The post-boot contract (R473) -/

/-- The first list that lists an offset decides. -/
theorem Image.find?_append (m m' : Image) (k : Nat) : Image.find? (m ++ m') k = (Image.find? m k).or (Image.find? m' k) := by
  induction m with
  | nil => rfl
  | cons x m ih =>
    simp only [List.cons_append, Image.find?]
    split
    · rfl
    · exact ih

/-- The contract's bytes are in place whatever the boot program left: they are written last, each once (R473). -/
theorem load_postBootRam_contract (left : BootLeavings) :
    ∀ x ∈ postBootBytes, Memory.load (postBootRam left) x.1.toNat = x.2 := by
  intro x hx
  have once : ∀ x ∈ postBootBytes,
      Image.find? (postBootBytes.map fun x => (x.1.toNat, x.2)).reverse x.1.toNat = some x.2 := by
    simp [postBootBytes, Image.find?]
  rw [load_postBootRam, List.reverse_cons, List.reverse_cons, Image.find?_append, Image.find?_append, once x hx]
  rfl

/-- The check of the contract finds nothing amiss (R473). -/
theorem postBootMismatches_postBoot (left : BootLeavings) (cart : Cartridge) :
    postBootMismatches (State.postBoot left cart) = [] := by
  have high : ∀ x ∈ postBootBytes, 0xFF00 ≤ x.1.toNat := by simp [postBootBytes]
  have byte : ∀ x ∈ postBootBytes, (State.postBoot left cart).peek x.1 = x.2 := fun x hx => by
    rw [State.peek_of_cell (cellOf_self (.inr (.inr (.inr (high x hx))))), State.postBoot_ram,
      load_postBootRam_contract left x hx]
  have bytes : (postBootBytes.filter fun x => (State.postBoot left cart).peek x.1 != x.2) = [] :=
    List.filter_eq_nil_iff.mpr fun x hx => by rw [byte x hx, bne_self_eq_false]; decide
  have af : (State.postBoot left cart).af = 0x01B0 := (by decide : wordOf 0x01 0xB0 = 0x01B0)
  have bc : (State.postBoot left cart).bc = 0x0013 := (by decide : wordOf 0x00 0x13 = 0x0013)
  have de : (State.postBoot left cart).de = 0x00D8 := (by decide : wordOf 0x00 0xD8 = 0x00D8)
  have hl : (State.postBoot left cart).hl = 0x014D := (by decide : wordOf 0x01 0x4D = 0x014D)
  simp [postBootMismatches, bytes, af, bc, de, hl]

/-- Settles O58: reset is the reset for the empty `RAM_INIT`. -/
theorem invariantAtLaunch : Obligations.InvariantAtLaunch :=
  ⟨.resetWith [], fun ramInit bootRom cart left => ⟨.resetWith ramInit, .cold ramInit bootRom cart, .postBoot left cart,
    postBootMismatches_postBoot left cart⟩⟩

end Sys2Proof.Machine
end
